-- ==== Sys2Proof/Word.lean ====
section
/-! DEFINITION. The word types of the block: 8-bit registers and command words (00_scope R6, 20_memory R63),
the 16-bit RAW latch and RESULT port (10_state R41, R49), the 10-bit sample (41_read_channel R151). -/

namespace Sys2Proof

/-- An ADC register or a command word: 8 bits (20_memory R63, 30_encoding R90). -/
abbrev Byte := BitVec 8

/-- The RAW latch and the RESULT port: 16 bits (10_state R41, R49). -/
abbrev Word16 := BitVec 16

/-- A conversion result: 10 bits (00_scope R6). -/
abbrev Sample := BitVec 10

/-- An operand nibble `ARG` and the channel-select code: 4 bits (30_encoding R91, 10_state R28). -/
abbrev Nibble := BitVec 4

end Sys2Proof
end

