-- ==== Sys2Proof/Syntax.lean ====
section
/-! DEFINITION. The three commands of spec/opcode_table.json (30_encoding R90, R92). -/

namespace Sys2Proof

/-- A command. The operand of READCH is the 4-bit `ARG` nibble, of which `WellFormed` admits channels 0 to 7. -/
inductive Instr where
  /-- `INIT e`: enable or disable the ADC (40_init R120). -/
  | init (enable : Bool)
  /-- `READCH c`: read a channel (41_read_channel R140). -/
  | readch (channel : Nibble)
  /-- `READTEMP`: read the temperature sensor (42_read_temperature R180). -/
  | readtemp
  deriving DecidableEq, Repr

end Sys2Proof
end

