-- ==== Sys2Proof/WellFormed.lean ====
section
/-! DEFINITION. Which commands the encoding admits (30_encoding R93, R94, R95, R103). -/

namespace Sys2Proof

/-- READCH's channel is 0 to 7, that is `ARG[3] = 0` (30_encoding R94); the other operands have no illegal value. -/
def Instr.wf : Instr → Bool
  | .init _ => true
  | .readch c => !c.getLsbD 3
  | .readtemp => true

/-- The well-formed commands. -/
abbrev Instr.WellFormed (i : Instr) : Prop := i.wf = true

end Sys2Proof
end

