-- ==== Sys2Proof/Decode.lean ====
section
/-! DEFINITION. The command word: decoder, encoder and assembler (30_encoding R90 to R103). -/

namespace Sys2Proof

/-- Why a word spells no command (30_encoding R96, R97). -/
inductive DecodeFault where
  /-- `OP` selects no command: `F_ILLEGAL_CMD` (60_exceptions R212). -/
  | illegalCmd
  /-- A reserved operand of INIT or READTEMP: `F_RESERVED_OPERAND` (60_exceptions R213). -/
  | reservedOperand
  /-- A channel 8 to 15: `F_CHANNEL_RANGE` (60_exceptions R214). -/
  | channelRange
  deriving DecidableEq, Repr

/-- `OP = w[7:4]` (30_encoding R91). -/
def opField (w : Byte) : Nibble := w.extractLsb' 4 4

/-- `ARG = w[3:0]` (30_encoding R91). -/
def argField (w : Byte) : Nibble := w.extractLsb' 0 4

/-- Decoding, total on every word and independent of every state (30_encoding R97, R98). -/
def decode (w : Byte) : Except DecodeFault Instr :=
  if opField w = 0b0001#4 then
    if (argField w).extractLsb' 1 3 = 0b000#3 then .ok (.init ((argField w).getLsbD 0))
    else .error .reservedOperand
  else if opField w = 0b0010#4 then
    if (argField w).getLsbD 3 = false then .ok (.readch (argField w)) else .error .channelRange
  else if opField w = 0b0011#4 then
    if argField w = 0b0000#4 then .ok .readtemp else .error .reservedOperand
  else .error .illegalCmd

/-- The `OP` nibble of a command (30_encoding R92). -/
def opOf : Instr → Nibble
  | .init _ => 0b0001#4
  | .readch _ => 0b0010#4
  | .readtemp => 0b0011#4

/-- The `ARG` nibble of a command: `000e`, the channel, `0000` (30_encoding R92 to R95). -/
def argOf : Instr → Nibble
  | .init e => if e then 0b0001#4 else 0b0000#4
  | .readch c => c
  | .readtemp => 0b0000#4

/-- The command word `OP : ARG` (30_encoding R91, R92). -/
def encode (i : Instr) : Byte := opOf i ++ argOf i

/-- The one byte of an opcode-table word: a command is one 8-bit word (30_encoding R90); bits above `nbits` are 0. -/
def tableByte (nbits w : Nat) : Byte := BitVec.ofNat 8 (w % 2 ^ nbits)

/-- The command the decoder reads from an opcode-table word. -/
def decodeTableWord (nbits w : Nat) : Option Instr :=
  match decode (tableByte nbits w) with
  | .ok i => some i
  | .error _ => none

/-- A source line of the assembler, its operand a decimal number (30_encoding R100, R101, R103). -/
inductive AsmLine where
  | init (enable : Nat)
  | readch (channel : Nat)
  | readtemp
  /-- pseudo-instruction for `INIT 1` -/
  | adcon
  /-- pseudo-instruction for `INIT 0` -/
  | adcoff
  deriving DecidableEq, Repr

/-- Assembly; an operand outside its range is an assembly error (30_encoding R100, R101). -/
def assemble : AsmLine → Option Instr
  | .init e => if e = 0 then some (.init false) else if e = 1 then some (.init true) else none
  | .readch c => if c ≤ 7 then some (.readch (BitVec.ofNat 4 c)) else none
  | .readtemp => some .readtemp
  | .adcon => some (.init true)
  | .adcoff => some (.init false)

end Sys2Proof
end

