-- ==== Sys2Proof/Config.lean ====
section
/-! DEFINITION. What the outside world chooses and what the spec leaves open: the steps of the agents (00_scope R8),
the free choice of the next one, and the OPEN parameters of 00_scope R7. -/

namespace Sys2Proof

/-- The four 8-bit ADC registers (20_memory R60). -/
inductive AdcReg where
  | datal | datah | ctrl | mode
  deriving DecidableEq, Repr, Inhabited

/-- A bus access is a read or a write (60_exceptions R217). -/
inductive AccessKind where
  | read | write
  deriving DecidableEq, Repr, Inhabited

/-- One step of one agent (00_scope R8, R11), with everything the agent brings to it. -/
inductive Event where
  /-- HOST writes a command word to `CMD` (30_encoding R104). -/
  | hostWriteCmd (w : Byte)
  /-- HOST reads `STATUS` (20_memory R78). -/
  | hostReadStatus
  /-- HOST reads `RESULT` (20_memory R78). -/
  | hostReadResult
  /-- HOST reads the write-only port `CMD` (60_exceptions R219). -/
  | hostReadCmd
  /-- HOST accesses an ADC register (60_exceptions R219). -/
  | hostRegister (reg : AdcReg) (kind : AccessKind)
  /-- SEQ takes its next step (10_state R23). -/
  | seq
  /-- CONV completes the outstanding conversion with the draws `sample` and `high` = DATAH[7:2] (41_read_channel R150). -/
  | conv (sample : Sample) (high : BitVec 6)
  /-- FOREIGN accesses an ADC register (60_exceptions R217, R219). -/
  | foreign (reg : AdcReg) (kind : AccessKind)
  deriving DecidableEq, Repr, Inhabited

/-- The free choice of the next agent's step where State's agenda is empty: any enabled agent may move (00_scope R8,
60_exceptions R220), with draws under no law (41_read_channel R151). Free value; log 1. -/
opaque Config.freeEvent : Nat → Event

/-- `F_CPU`, the processor clock: OPEN, no rule depends on it (00_scope R7). Log 15. -/
opaque Config.fCpu : Nat

/-- `T_CONV`, the duration of a conversion: OPEN, no rule depends on it (00_scope R7). Log 15. -/
opaque Config.tConv : Nat

/-- `T_SETTLE_CH`, the channel settling delay: OPEN (41_read_channel R143). Log 15. -/
opaque Config.tSettleCh : Nat

/-- By how much the temperature settling delay exceeds the channel's by more than one unit: free. Log 15. -/
opaque Config.tSettleExtra : Nat

/-- `T_SETTLE_TEMP`: OPEN but for the source's `T_SETTLE_TEMP > T_SETTLE_CH` (42_read_temperature R182). Log 15. -/
def Config.tSettleTemp : Nat := Config.tSettleCh + 1 + Config.tSettleExtra

end Sys2Proof
end

