-- ==== Sys2Proof/Machine/Layout.lean ====
section
/-! DEFINITION. The parameters `REG_LAYOUT` and `ADC_REG_ADDR` at this spec's values (10_state R25, R30; 20_memory R61),
and the reading and replacing of a bit field. PRESUMED by the spec from the family ATmega328P: logs 7 and 8. -/

namespace Sys2Proof.Machine

/-- `MODE.REF = MODE[7:6]` (10_state R25): its low bit's position. -/
@[simp] abbrev refPos : Nat := 6
/-- `MODE.ALIGN = MODE[5]` (10_state R25). -/
@[simp] abbrev alignPos : Nat := 5
/-- The unnamed bit `MODE[4]` (10_state R25, R33). -/
@[simp] abbrev modeUnnamedPos : Nat := 4
/-- `MODE.CH = MODE[3:0]` (10_state R25). -/
@[simp] abbrev chPos : Nat := 0
/-- `CTRL.EN = CTRL[7]` (10_state R30). -/
@[simp] abbrev enPos : Nat := 7
/-- `CTRL.START = CTRL[6]` (10_state R30). -/
@[simp] abbrev startPos : Nat := 6
/-- The unnamed bit `CTRL[5]` (10_state R30, R33). -/
@[simp] abbrev ctrlUnnamedHiPos : Nat := 5
/-- `CTRL.FLAG = CTRL[4]` (10_state R30). -/
@[simp] abbrev flagPos : Nat := 4
/-- The unnamed bit `CTRL[3]` (10_state R30, R33). -/
@[simp] abbrev ctrlUnnamedLoPos : Nat := 3
/-- `CTRL.PS = CTRL[2:0]` (10_state R30). -/
@[simp] abbrev psPos : Nat := 0

/-- The field of `width` bits whose lowest bit stands at `pos` (00_scope R9). -/
def getField (w : Byte) (pos width : Nat) : BitVec width := w.extractLsb' pos width

/-- `w` with the bits from `pos` up replaced by `v`, every other bit kept (20_memory R66). -/
def setField {width : Nat} (w : Byte) (pos : Nat) (v : BitVec width) : Byte :=
  (w &&& ~~~(((BitVec.allOnes width).setWidth 8) <<< pos)) ||| ((v.setWidth 8) <<< pos)

/-- `ADC_REG_ADDR`: the bus address of each ADC register (20_memory R61; informational). -/
def adcRegAddr : AdcReg → Nat
  | .datal => 0x78
  | .datah => 0x79
  | .ctrl => 0x7A
  | .mode => 0x7C

/-- The register at a bus address; an address outside the table is not part of the block (20_memory R61). -/
def regAt (addr : Nat) : Option AdcReg :=
  if addr = adcRegAddr .datal then some .datal
  else if addr = adcRegAddr .datah then some .datah
  else if addr = adcRegAddr .ctrl then some .ctrl
  else if addr = adcRegAddr .mode then some .mode
  else none

end Sys2Proof.Machine
end

