-- ==== Sys2Proof/Machine/State.lean ====
section
/-! DEFINITION. The state of the block: every piece 10_state names (R20 to R49), as plain data, and its reset (R45, R240). -/

namespace Sys2Proof.Machine

/-- The values of `SEQ_STATE`, the analogue of a program counter (10_state R21). -/
inductive SeqState where
  | idle | pending | configured | started | complete | cleared | resultRead
  deriving DecidableEq, Repr

/-- The values of `CUR.OP` (10_state R22). -/
inductive Op where
  | init | readch | readtemp
  deriving DecidableEq, Repr

/-- The command latch `CUR` (10_state R22). -/
structure CmdLatch where
  op : Op
  arg : Nibble
  deriving DecidableEq, Repr

/-- The fault reasons of 60_exceptions with their info. A fault is an outcome of the model, raised where the source
calls behaviour undefined or a precondition is violated (R210); each is safe, since no claim about what follows is provable. -/
inductive Fault where
  /-- `F_CMD_WHILE_BUSY(w)`, by acceptance while BUSY (60_exceptions R211). Safe. -/
  | cmdWhileBusy (w : Byte)
  /-- `F_ILLEGAL_CMD(w)`, by acceptance of a word whose OP selects no command (60_exceptions R212). Safe. -/
  | illegalCmd (w : Byte)
  /-- `F_RESERVED_OPERAND(w)`, by acceptance of INIT or READTEMP with a reserved ARG (60_exceptions R213). Safe. -/
  | reservedOperand (w : Byte)
  /-- `F_CHANNEL_RANGE(w)`, by acceptance of READCH with a channel 8 to 15 (60_exceptions R214). Safe. -/
  | channelRange (w : Byte)
  /-- `F_READ_DISABLED(op, arg)`, by the start step with EN = 0 (60_exceptions R215). Safe. -/
  | readDisabled (op : Op) (arg : Nibble)
  /-- `F_RESULT_UNAVAILABLE()`, by a HOST read of RESULT with RESULT_VALID = 0 (60_exceptions R216). Safe. -/
  | resultUnavailable
  /-- `F_FOREIGN_ACCESS(reg, kind)`, by a FOREIGN access while BUSY (60_exceptions R217). Safe. -/
  | foreignAccess (reg : AdcReg) (kind : AccessKind)
  deriving DecidableEq, Repr

/-- The refusal reasons: the step has no meaning (60_exceptions R219). Each is safe. -/
inductive Refusal where
  /-- An instruction with no meaning yet; exec's arms only (none is left in this model). Safe. -/
  | notModelled (mnemonic : String)
  /-- `R_FOREIGN_IDLE`: a FOREIGN access while not BUSY (60_exceptions R219). Safe. -/
  | foreignIdle
  /-- `R_CMD_READ`: a read of the write-only port CMD (60_exceptions R219). Safe. -/
  | cmdRead
  /-- `R_HOST_REGISTER`: a HOST access to an ADC register (60_exceptions R219). Safe. -/
  | hostRegister
  /-- The data pair is written or read under ALIGN = 1, to which no rule gives a meaning (10_state R27,
  93_implementation_defined item 22); by the converter's completion and the data-read step, unreachable from reset. Safe. -/
  | leftAligned
  deriving DecidableEq, Repr

/-- What a HOST port read returned (20_memory R78). -/
inductive HostReply where
  /-- the 2-bit `STATUS = BUSY:RESULT_VALID` -/
  | status (v : BitVec 2)
  /-- the 16-bit `RESULT` -/
  | result (v : Word16)
  deriving DecidableEq, Repr

/-- The machine's state. `STATUS.BUSY` is a view of `seqState` (10_state R40) and `CMD` holds no value (R39). -/
structure State where
  /-- `MODE` (10_state R24). -/
  mode : Byte
  /-- `CTRL` (10_state R29). -/
  ctrl : Byte
  /-- `DATAL` (10_state R36). -/
  datal : Byte
  /-- `DATAH` (10_state R36). -/
  datah : Byte
  /-- `SEQ_STATE` (10_state R21). -/
  seqState : SeqState
  /-- `CUR` (10_state R22). -/
  cur : CmdLatch
  /-- `RAW` (10_state R49). -/
  raw : Word16
  /-- `STATUS.RESULT_VALID` (10_state R40). -/
  resultValid : Bool
  /-- `RESULT` (10_state R41). -/
  result : Word16
  /-- `CONV_ACTIVE` (10_state R42). -/
  convActive : Bool
  /-- `DATA_VALID` (10_state R43). -/
  dataValid : Bool
  /-- `FAULT` (10_state R44). -/
  fault : Option Fault
  /-- `REFUSED`, a set: no reason twice (10_state R44). -/
  refused : List Refusal
  /-- The model's own: the agents' coming steps, the next one first (00_scope R8). Log 1. -/
  agenda : List Event
  /-- The model's own: the index of the next free event (log 1). -/
  tick : Nat
  /-- The model's own: what HOST's last port read returned (20_memory R78). Log 11. -/
  hostRead : Option HostReply
  deriving DecidableEq, Repr

/-- Power-on reset (10_state R45, 70_reset_and_hazards R240). `datal` and `datah` are the family's reset values
(PRESUMED, log 9); `cur`, `raw` and `result`, which the spec leaves without a value, and the model's own three fields are
DESIGN CHOICES (logs 10 and 12). -/
def State.reset : State where
  mode := 0x00#8
  ctrl := 0x00#8
  datal := 0x00#8
  datah := 0x00#8
  seqState := .idle
  cur := { op := .init, arg := 0#4 }
  raw := 0#16
  resultValid := false
  result := 0#16
  convActive := false
  dataValid := false
  fault := none
  refused := []
  agenda := []
  tick := 0
  hostRead := none

end Sys2Proof.Machine
end

