-- ==== Sys2Proof/Machine/Flags.lean ====
section
/-! DEFINITION. Field reads `REG.F` (00_scope R10), the status flags (10_state R40, R47), and how a bus write acts on the
bits of `CTRL` (20_memory R67 to R69). -/

namespace Sys2Proof.Machine

/-- `MODE.REF` (10_state R26). -/
def State.ref (s : State) : BitVec 2 := getField s.mode refPos 2
/-- `MODE.ALIGN` (10_state R27). -/
def State.align (s : State) : BitVec 1 := getField s.mode alignPos 1
/-- `MODE.CH` (10_state R28). -/
def State.ch (s : State) : Nibble := getField s.mode chPos 4
/-- The unnamed bit `MODE[4]` (10_state R33). -/
def State.modeUnnamed (s : State) : BitVec 1 := getField s.mode modeUnnamedPos 1
/-- `CTRL.EN` (10_state R31). -/
def State.en (s : State) : BitVec 1 := getField s.ctrl enPos 1
/-- `CTRL.START` (10_state R34). -/
def State.start (s : State) : BitVec 1 := getField s.ctrl startPos 1
/-- `CTRL.FLAG` (10_state R35). -/
def State.flag (s : State) : BitVec 1 := getField s.ctrl flagPos 1
/-- `CTRL.PS` (10_state R32). -/
def State.ps (s : State) : BitVec 3 := getField s.ctrl psPos 3
/-- The unnamed bit `CTRL[5]` (10_state R33). -/
def State.ctrlUnnamedHi (s : State) : BitVec 1 := getField s.ctrl ctrlUnnamedHiPos 1
/-- The unnamed bit `CTRL[3]` (10_state R33). -/
def State.ctrlUnnamedLo (s : State) : BitVec 1 := getField s.ctrl ctrlUnnamedLoPos 1

/-- `STATUS.BUSY`: 1 exactly when `SEQ_STATE ≠ IDLE` (10_state R40). -/
def State.busy (s : State) : Bool := s.seqState != .idle

/-- `STATUS = BUSY:RESULT_VALID`, BUSY the more significant bit (10_state R40, 20_memory R78, 00_scope R9). -/
def State.status (s : State) : BitVec 2 := BitVec.ofBool s.busy ++ BitVec.ofBool s.resultValid

/-- Does writing `new` over `old` set START from 0 to 1 with EN = 1, and so start a conversion (20_memory R67)? A
read-modify-write that only puts START back starts nothing (20_memory R66; DEDUCED, log 16). R67's "EN = 1 at the write" is
read as the EN held before the write, not the one written (DESIGN CHOICE, log 22). -/
def startsConversion (old new : Byte) : Bool :=
  getField old enPos 1 == 1#1 && getField old startPos 1 == 0#1 && getField new startPos 1 == 1#1

/-- Does writing `new` over `old` set START from 0 to 1 with EN = 0, which the source leaves undefined (20_memory R67)? The
EN held before the write counts, not the one written (DESIGN CHOICE, log 22). -/
def startIsUndefined (old new : Byte) : Bool :=
  getField old enPos 1 == 0#1 && getField old startPos 1 == 0#1 && getField new startPos 1 == 1#1

/-- Would `v` written to register `r` set an unnamed bit (10_state R33)? -/
def setsUnnamed (r : AdcReg) (v : Byte) : Bool :=
  match r with
  | .mode => getField v modeUnnamedPos 1 == 1#1
  | .ctrl => getField v ctrlUnnamedHiPos 1 == 1#1 || getField v ctrlUnnamedLoPos 1 == 1#1
  | .datal => false
  | .datah => false

/-- Would writing `new` to CTRL raise EN while REF and ALIGN are not configured? The source disallows it and gives no effect
(40_init R121, 70_reset_and_hazards R245; 93_implementation_defined item 9). Configured means a reference code with a meaning
the sequencer uses, 01 or 11, and right alignment (DESIGN CHOICE, log 24). -/
def enablesUnconfigured (s : State) (new : Byte) : Bool :=
  s.en == 0#1 && getField new enPos 1 == 1#1 && !((s.ref == 0b01#2 || s.ref == 0b11#2) && s.align == 0#1)

/-- Does the spec give a whole-byte write of `new` to CTRL its effect? Not one that sets an unnamed bit (10_state R33, log 21),
sets START with EN = 0 (20_memory R67, log 16), or enables before configuring (40_init R121, log 24). -/
def ctrlWriteDefined (s : State) (new : Byte) : Bool :=
  !setsUnnamed .ctrl new && !startIsUndefined s.ctrl new && !enablesUnconfigured s new

/-- `CTRL` after a bus write of `new` over `old`: writing 1 clears FLAG and 0 leaves it (20_memory R68, R69); writing 0
leaves START and 1 sets it (R67, R69); every other bit takes the written value. -/
def ctrlAfterWrite (old new : Byte) : Byte :=
  setField (setField new flagPos (getField old flagPos 1 &&& ~~~(getField new flagPos 1)))
    startPos (getField old startPos 1 ||| getField new startPos 1)

end Sys2Proof.Machine
end

