-- ==== Sys2Proof/Machine/Operands.lean ====
section
/-! DEFINITION. The operand forms: what a command's operand and its fixed codes are (30_encoding R93 to R95; 10_state R26,
R27, R28, R32), and the command that stands in the latch `CUR`. -/

namespace Sys2Proof.Machine

/-- Reference code `01`: supply voltage (10_state R26). -/
abbrev refSupply : BitVec 2 := 0b01#2
/-- Reference code `11`: internal band-gap (10_state R26). -/
abbrev refBandGap : BitVec 2 := 0b11#2
/-- Reference code `00`: what INIT 0 leaves (10_state R26). -/
abbrev refCleared : BitVec 2 := 0b00#2
/-- Right-aligned result format, `ALIGN = 0` (10_state R27; PRESUMED polarity, log 8). -/
abbrev alignRight : BitVec 1 := 0#1
/-- Maximum clock division, `PS = 111` (10_state R32; PRESUMED code, log 8). -/
abbrev psMax : BitVec 3 := 0b111#3
/-- Cleared prescaler bits (10_state R32). -/
abbrev psCleared : BitVec 3 := 0b000#3
/-- Channel code of the internal temperature sensor (10_state R28). -/
abbrev chTemp : Nibble := 0b1000#4

/-- The channel-select code of READCH's operand, `0 : ARG[2:0]` (30_encoding R94, 41_read_channel R141). -/
def channelCode (c : Nibble) : Nibble := (c.extractLsb' 0 3).setWidth 4

/-- The `CUR.OP` of a command (30_encoding R104). -/
def latchOp : Instr → Op
  | .init _ => .init
  | .readch _ => .readch
  | .readtemp => .readtemp

/-- What acceptance copies into `CUR` (30_encoding R104, 10_state R22). -/
def latchOf (i : Instr) : CmdLatch := { op := latchOp i, arg := argOf i }

/-- The command SEQ performs: `enable = CUR.ARG[0]` (30_encoding R93), `channel = zext_4(CUR.ARG[2:0])` (R94). -/
def CmdLatch.instr (k : CmdLatch) : Instr :=
  match k.op with
  | .init => .init (k.arg.getLsbD 0)
  | .readch => .readch (channelCode k.arg)
  | .readtemp => .readtemp

end Sys2Proof.Machine
end

