-- ==== Sys2Proof/Machine/Ops.lean ====
section
/-! DEFINITION. The named operations over the state: the updates of single registers, the register accesses of 20_memory
R64 to R69, the acceptance of a command (30_encoding R104), and the two ways a step is recorded as having no further
meaning (60_exceptions R210, R219). -/

namespace Sys2Proof.Machine

/-- What a step answers. -/
abbrev Answer := Host.Outcome State Fault Refusal

/-! Updates of the state. -/

/-- `MODE` takes a value. -/
def State.setMode (s : State) (v : Byte) : State := { s with mode := v }
/-- `CTRL` takes a value, with no side effect. -/
def State.setCtrl (s : State) (v : Byte) : State := { s with ctrl := v }
/-- `state <- q` (00_scope R10). -/
def State.setSeq (s : State) (q : SeqState) : State := { s with seqState := q }
/-- Acceptance's updates (30_encoding R104). -/
def State.latch (s : State) (k : CmdLatch) : State := { s with cur := k, resultValid := false, seqState := .pending }
/-- A conversion starts (20_memory R67). -/
def State.beginConversion (s : State) : State := { s with convActive := true, dataValid := false }
/-- The converter writes the data pair and the conversion is no longer outstanding (41_read_channel R150). -/
def State.endConversion (s : State) (l h : Byte) : State :=
  { s with datal := l, datah := h, convActive := false, dataValid := true }
/-- `RAW` takes a value. -/
def State.setRaw (s : State) (v : Word16) : State := { s with raw := v }
/-- `RESULT <- v; STATUS.RESULT_VALID <- 1` (41_read_channel R153, 42_read_temperature R188). -/
def State.publish (s : State) (v : Word16) : State := { s with result := v, resultValid := true }
/-- What HOST's port read returned. -/
def State.replyHost (s : State) (r : HostReply) : State := { s with hostRead := some r }
/-- `FAULT <- f` if `FAULT = none` (60_exceptions R210). -/
def State.recordFault (s : State) (f : Fault) : State :=
  { s with fault := match s.fault with | none => some f | some g => some g }
/-- `r` joins the set `REFUSED` (10_state R44, 60_exceptions R219). -/
def State.recordRefusal (s : State) (r : Refusal) : State :=
  { s with refused := if s.refused.contains r then s.refused else s.refused ++ [r] }
/-- The next event leaves the agenda; where it is empty, one free event is used up (log 1). -/
def State.takeEvent (s : State) : State :=
  match s.agenda with
  | [] => { s with tick := s.tick + 1 }
  | _ :: rest => { s with agenda := rest }

/-- The event whose turn it is: any agent's, free where the agenda is empty (00_scope R8, 60_exceptions R220; log 1). -/
def State.nextEvent (s : State) : Event :=
  match s.agenda with
  | [] => Config.freeEvent s.tick
  | e :: _ => e

/-! Answers. -/

/-- `raise F(info)`: the fault is recorded and the step does nothing more (60_exceptions R210, R222). This is the one
operation by which every fault is taken; there is no return from it (R223). -/
def raiseFault (f : Fault) (s : State) : Answer := .next (s.recordFault f)

/-- `refuse R`: the refusal is recorded and nothing else happens (60_exceptions R219). -/
def refuse (r : Refusal) (s : State) : Answer := .next (s.recordRefusal r)

/-- Once a fault is recorded no agent has any step (60_exceptions R210), and a state with a refusal satisfies no claim
(R219; log 6): only otherwise is `k` the answer. -/
def guarded (s : State) (k : Answer) : Answer :=
  match s.fault, s.refused with
  | some f, _ => .fault f
  | none, r :: _ => .refused r
  | none, [] => k

/-- The agent's step is not enabled: its turn passes with nothing changed (10_state R23; log 2). -/
def notEnabled (s : State) : Answer := .next s

/-! Register accesses. -/

/-- `RegRead(REG)`: the whole register, with no side effect (20_memory R64). -/
def regRead (r : AdcReg) (s : State) : Byte :=
  match r with
  | .datal => s.datal
  | .datah => s.datah
  | .ctrl => s.ctrl
  | .mode => s.mode

/-- A bus write of `CTRL`, with the per-bit effects of 20_memory R67 to R69. No step of the block writes START with
EN = 0: the start step raises before (41_read_channel R145). -/
def writeCtrl (new : Byte) (s : State) : State :=
  let t := s.setCtrl (ctrlAfterWrite s.ctrl new)
  if startsConversion s.ctrl new then t.beginConversion else t

/-- `MODE.F <- v` for the field whose lowest bit is `pos` (20_memory R66). -/
def writeModeField {width : Nat} (pos : Nat) (v : BitVec width) (s : State) : State :=
  s.setMode (setField (regRead .mode s) pos v)

/-- `CTRL.F <- v` for the field whose lowest bit is `pos`, other than FLAG: 0 is written at FLAG (20_memory R66). -/
def writeCtrlField {width : Nat} (pos : Nat) (v : BitVec width) (s : State) : State :=
  writeCtrl (setField (setField (regRead .ctrl s) pos v) flagPos 0#1) s

/-- `CTRL.START <- 1` with EN = 1: the field write and, whatever START held, its effect (20_memory R67): a conversion starts. -/
def writeStart (s : State) : State := (writeCtrlField startPos 1#1 s).beginConversion

/-- `W1C(CTRL.FLAG)`: `CTRL` is written with 1 at FLAG and its current value elsewhere (20_memory R68). -/
def w1cFlag (s : State) : State := writeCtrl (setField (regRead .ctrl s) flagPos 1#1) s

/-- `MemRead(addr, 1)`: the access to the register at `addr`; none where the block has no register (20_memory R61). -/
def memRead (addr : Nat) (s : State) : Option Byte := (regAt addr).map fun r => regRead r s

/-- `MemWrite(addr, 1, v)`: the access to the register at `addr` (20_memory R61); none where the block has no register,
none for the data pair, which is read-only to every bus access (R65); none for a write to which the spec gives no effect: a 1
at an unnamed bit (10_state R33; DESIGN CHOICE, log 21), START set with EN = 0 (R67; DEDUCED, log 16), EN raised before REF
and ALIGN are configured (40_init R121; DESIGN CHOICE, log 24). No step of the block goes through it. -/
def memWrite (addr : Nat) (v : Byte) (s : State) : Option State :=
  match regAt addr with
  | some .mode => if setsUnnamed .mode v then none else some (s.setMode v)
  | some .ctrl => if ctrlWriteDefined s v then some (writeCtrl v s) else none
  | some .datal => none
  | some .datah => none
  | none => none

/-! Acceptance. -/

/-- Acceptance of a decoded command (30_encoding R104): the latch, RESULT_VALID and SEQ_STATE; no ADC register. -/
def accept (i : Instr) (s : State) : Answer := .next (s.latch (latchOf i))

end Sys2Proof.Machine
end

