-- ==== Sys2Proof/Machine/Init.lean ====
section
/-! DEFINITION. INIT, enable and disable (40_init R120 to R123). -/

namespace Sys2Proof.Machine

/-- The one SEQ step of INIT, its field writes in the source's order, EN last (40_init R120, R121). -/
def initStep (enable : Bool) (s : State) : State :=
  match enable with
  | true =>
    (writeCtrlField enPos 1#1 (writeModeField alignPos alignRight (writeModeField refPos refSupply
      (writeCtrlField psPos psMax s)))).setSeq .idle
  | false =>
    (writeCtrlField enPos 0#1 (writeModeField refPos refCleared (writeCtrlField psPos psCleared s))).setSeq .idle

/-- INIT's next step: acceptance at IDLE (30_encoding R104), its one SEQ step at PENDING (40_init R120). In the states of a
conversion INIT has no step (41_read_channel R144). -/
def execInit (enable : Bool) (s : State) : Answer :=
  guarded s <|
    match s.seqState with
    | .idle => accept (.init enable) s
    | .pending => .next (initStep enable s)
    | .configured => notEnabled s
    | .started => notEnabled s
    | .complete => notEnabled s
    | .cleared => notEnabled s
    | .resultRead => notEnabled s

end Sys2Proof.Machine
end

