-- ==== Sys2Proof/Machine/Conversion.lean ====
section
/-! DEFINITION. The conversion cycle READCH and READTEMP share (41_read_channel R144 to R149) and the converter's
completion (R150). -/

namespace Sys2Proof.Machine

/-- Start step (41_read_channel R145): the fault if the ADC is disabled, else START is written and SEQ goes to STARTED. The
settling delay before it is a lower bound with no effect on values (R143, 42_read_temperature R182; log 15). -/
def startStep (s : State) : Answer :=
  if s.en = 0#1 then raiseFault (.readDisabled s.cur.op s.cur.arg) s
  else .next ((writeStart s).setSeq .started)

/-- Poll step (41_read_channel R146): one read of CTRL; SEQ stays at STARTED while FLAG reads 0. -/
def pollStep (s : State) : Answer :=
  if getField (regRead .ctrl s) flagPos 1 = 1#1 then .next (s.setSeq .complete) else .next s

/-- Clear step (41_read_channel R148). -/
def clearStep (s : State) : Answer := .next ((w1cFlag s).setSeq .cleared)

/-- `zext_16(((H & 0x03) << 8) | L)` (20_memory R62, 41_read_channel R149, R154). -/
def combine (h l : Byte) : Word16 := ((h &&& 0x03#8).setWidth 16 <<< 8) ||| l.setWidth 16

/-- Data-read step (41_read_channel R149), DATAL then DATAH. Under `ALIGN = 1` the pair has no meaning and the step is
refused (10_state R27, 93_implementation_defined item 22; log 17). -/
def dataReadStep (s : State) : Answer :=
  if s.align = alignRight then
    let l := regRead .datal s
    let h := regRead .datah s
    .next ((s.setRaw (combine h l)).setSeq .resultRead)
  else refuse .leftAligned s

/-- The converter's completion step (41_read_channel R150) with the draws `sample` and `high` (R151, 10_state R37): the data
pair, START and FLAG, all in one step, enabled while a conversion is outstanding. Under `ALIGN = 1` the pair's content has no
meaning and the step is refused (log 17). -/
def convStep (sample : Sample) (high : BitVec 6) (s : State) : Answer :=
  if s.convActive = false then notEnabled s
  else if s.align = alignRight then
    .next ((s.setCtrl (setField (setField s.ctrl startPos 0#1) flagPos 1#1)).endConversion
      (sample.extractLsb' 0 8) (high ++ sample.extractLsb' 8 2))
  else refuse .leftAligned s

end Sys2Proof.Machine
end

