-- ==== Sys2Proof/Machine/ReadChannel.lean ====
section
/-! DEFINITION. READCH (41_read_channel R140 to R143, R153, R155). -/

namespace Sys2Proof.Machine

/-- `MODE.CH[k] <- b`, one of the four independent bit assignments (41_read_channel R141). -/
def writeChBit (k : Nat) (b : Bool) (s : State) : State := writeModeField (chPos + k) (BitVec.ofBool b) s

/-- Configure step of READCH (41_read_channel R141): the reference, then the four channel bits, bit 3 with 0. -/
def configureReadch (c : Nibble) (s : State) : Answer :=
  .next ((writeChBit 3 false (writeChBit 2 (c.getLsbD 2) (writeChBit 1 (c.getLsbD 1) (writeChBit 0 (c.getLsbD 0)
    (writeModeField refPos refSupply s))))).setSeq .configured)

/-- Final step of READCH (41_read_channel R153). -/
def deliverReadch (s : State) : Answer := .next ((s.publish s.raw).setSeq .idle)

/-- READCH's next step, row by row of 10_state R23: acceptance at IDLE (30_encoding R104; the operand 8 to 15 is out of
range, R94), configure, start, poll, clear, data read, deliver (41_read_channel R140). -/
def execReadch (c : Nibble) (s : State) : Answer :=
  guarded s <|
    match s.seqState with
    | .idle =>
      if (Instr.readch c).wf then accept (.readch c) s else raiseFault (.channelRange (encode (.readch c))) s
    | .pending => configureReadch c s
    | .configured => startStep s
    | .started => pollStep s
    | .complete => clearStep s
    | .cleared => dataReadStep s
    | .resultRead => deliverReadch s

end Sys2Proof.Machine
end

