-- ==== Sys2Proof/Machine/Temperature.lean ====
section
/-! DEFINITION. READTEMP and the temperature scaling (42_read_temperature R180 to R190). -/

namespace Sys2Proof.Machine

/-- `TEMP_GAIN` in thousandths (42_read_temperature R190). -/
def tempGain : Int := 782
/-- `TEMP_OFFSET` in thousandths (42_read_temperature R190). -/
def tempOffset : Int := -250000

/-- `TEMP_SCALE(v)`: `0.782·v − 250`, computed exactly and truncated toward zero (42_read_temperature R183, R184). -/
def tempScale (v : Sample) : Int :=
  let n := tempGain * v.toNat + tempOffset
  if 0 ≤ n then (n.toNat / 1000 : Nat) else -(((-n).toNat / 1000 : Nat) : Int)

/-- `TEMP_SCALE(v) mod 2^16` (42_read_temperature R185). -/
def tempResult (v : Sample) : Word16 := BitVec.ofInt 16 (tempScale v)

/-- The source's signed 8-bit return value: `RESULT[7:0]` as a signed byte (42_read_temperature R185). -/
def signedByte (r : Word16) : Int := (r.extractLsb' 0 8).toInt

/-- Configure step of READTEMP (42_read_temperature R181). -/
def configureReadtemp (s : State) : Answer :=
  .next ((writeModeField chPos chTemp (writeModeField refPos refBandGap s)).setSeq .configured)

/-- Final step of READTEMP: scale `RAW[9:0]` and deliver (42_read_temperature R188). -/
def deliverReadtemp (s : State) : Answer :=
  .next ((s.publish (tempResult (s.raw.extractLsb' 0 10))).setSeq .idle)

/-- READTEMP's next step, row by row of 10_state R23: acceptance at IDLE (30_encoding R104), configure, the shared cycle
(41_read_channel R144), scale and deliver (42_read_temperature R180). -/
def execReadtemp (s : State) : Answer :=
  guarded s <|
    match s.seqState with
    | .idle => accept .readtemp s
    | .pending => configureReadtemp s
    | .configured => startStep s
    | .started => pollStep s
    | .complete => clearStep s
    | .cleared => dataReadStep s
    | .resultRead => deliverReadtemp s

end Sys2Proof.Machine
end

