-- ==== Sys2Proof/Machine/Dispatch.lean ====
section
/-! DEFINITION. Which meaning each command has: `exec i s` is the next step of command `i` in state `s` (10_state R23; log 4). -/

namespace Sys2Proof.Machine

def exec (i : Instr) (s : State) : Host.Outcome State Fault Refusal :=
  match i with
  | .init enable => Sys2Proof.Machine.execInit enable s
  | .readch channel => Sys2Proof.Machine.execReadch channel s
  | .readtemp => Sys2Proof.Machine.execReadtemp s

end Sys2Proof.Machine
end

