-- ==== Sys2Proof/Machine/Events.lean ====
section
/-! DEFINITION. The steps of the agents (00_scope R8): HOST's port accesses (20_memory R78, 30_encoding R104), SEQ's next
step, CONV's completion, FOREIGN's accesses (60_exceptions R217, R219). -/

namespace Sys2Proof.Machine

/-- The fault of a word that spells no command (30_encoding R97). -/
def faultOf (w : Byte) : DecodeFault → Fault
  | .illegalCmd => .illegalCmd w
  | .reservedOperand => .reservedOperand w
  | .channelRange => .channelRange w

/-- `write CMD, w` (30_encoding R104): busy is checked first, then the decoding (60_exceptions R220); a decoded command's
step at IDLE is its acceptance. -/
def hostWrite (w : Byte) (s : State) : Answer :=
  if s.busy then raiseFault (.cmdWhileBusy w) s
  else match decode w with
    | .error d => raiseFault (faultOf w d) s
    | .ok i => exec i s

/-- `read STATUS` (20_memory R78, 10_state R40). -/
def hostReadStatus (s : State) : Answer := .next (s.replyHost (.status s.status))

/-- `read RESULT` (20_memory R78): a fault while RESULT_VALID = 0 (60_exceptions R216). -/
def hostReadResult (s : State) : Answer :=
  if s.resultValid then .next (s.replyHost (.result s.result)) else raiseFault .resultUnavailable s

/-- SEQ's turn: the next step of the command in `CUR`; at IDLE it has none (10_state R23). -/
def seqTurn (s : State) : Answer :=
  if s.busy then exec s.cur.instr s else notEnabled s

/-- A FOREIGN access to an ADC register: a fault while BUSY (60_exceptions R217), else refused (R219). -/
def foreignAccess (reg : AdcReg) (kind : AccessKind) (s : State) : Answer :=
  if s.busy then raiseFault (.foreignAccess reg kind) s else refuse .foreignIdle s

/-- One step of the agent the event names. -/
def perform (e : Event) (s : State) : Answer :=
  guarded s <|
    match e with
    | .hostWriteCmd w => hostWrite w s
    | .hostReadStatus => hostReadStatus s
    | .hostReadResult => hostReadResult s
    | .hostReadCmd => refuse .cmdRead s
    | .hostRegister _ _ => refuse .hostRegister s
    | .seq => seqTurn s
    | .conv sample high => convStep sample high s
    | .foreign reg kind => foreignAccess reg kind s

end Sys2Proof.Machine
end

