-- ==== Sys2Proof/Machine/Step.lean ====
section
/-! DEFINITION. One step of the machine: the agent whose turn it is performs its step (00_scope R8, R11). -/

namespace Sys2Proof.Machine

/-- One step: the next event is taken and performed; from a recorded fault or refusal there is no step (60_exceptions
R210, R219). -/
def step (s : State) : Host.Outcome State Fault Refusal :=
  perform s.nextEvent s.takeEvent

/-- HOST's next step is to write the word to `CMD` (30_encoding R104). Log 3. -/
def State.withFetchWord (s : State) (nbits w : Nat) : State :=
  { s with agenda := .hostWriteCmd (tableByte nbits w) :: s.agenda }

end Sys2Proof.Machine
end

