-- ==== Sys2Proof/Machine/FloatTemp.lean ====
section
/-! DEFINITION. The original's evaluation of `0.782 × v − 250` in binary floating point (42_read_temperature R187), on exact
integers: a value x is held as the integer x·2^e. No step of the machine uses it; it states R187. -/

namespace Sys2Proof.Machine

/-- `n` rounded to `p` significant bits, to nearest, ties to even (IEEE-754's default, 42_read_temperature R187). -/
def roundSig (p n : Nat) : Nat :=
  let unit := 2 ^ (n.log2 + 1 - p)
  let q := n / unit
  let r := n % unit
  if unit < 2 * r || (2 * r == unit && q % 2 == 1) then (q + 1) * unit else q * unit

/-- `trunc(0.782 × v − 250)` with `p` significant bits, each operation rounded, the constant rounded first (42_read_temperature
R187). Values are scaled by `2^(p+12)`; 0.782's tail below that scale is kept as a sticky lowest bit. -/
def floatTemp (p : Nat) (v : Sample) : Int :=
  let scale := 2 ^ (p + 12)
  let gain := roundSig p ((782 * scale / 1000) ||| 1)
  let product := roundSig p (gain * v.toNat)
  let offset := 250 * scale
  if offset ≤ product then (roundSig p (product - offset) / scale : Nat)
  else -((roundSig p (offset - product) / scale : Nat) : Int)

end Sys2Proof.Machine
end

