-- ==== Sys2Proof/Safety.lean ====
section
/-! DEFINITION. What claims are stated in: the invariant of the reachable states, runs of the machine under a stream of the
agents' steps, and the premise `CONVERTER_RESPONDS`. -/

namespace Sys2Proof.Safety

open Sys2Proof.Machine

/-- No fault recorded and nothing refused: the premise a claim may take (10_state R44). -/
abbrev Live (s : State) : Prop := s.fault = none ∧ s.refused = []

/-- READCH or READTEMP: the commands that share the conversion cycle (41_read_channel R144). -/
abbrev IsRead (i : Instr) : Prop := (∃ c, i = .readch c) ∨ i = .readtemp

/-- The unnamed bits are held at 0 (10_state R33). -/
abbrev UnnamedBitsZero (s : State) : Prop := s.modeUnnamed = 0#1 ∧ s.ctrlUnnamedHi = 0#1 ∧ s.ctrlUnnamedLo = 0#1

/-- MODE and CTRL hold only codes the sequencer writes (10_state R26, R27, R28, R32). -/
abbrev CodesLegal (s : State) : Prop :=
  s.ref ≠ 0b10#2 ∧ s.align = 0#1 ∧ s.ch ≤ 0b1000#4 ∧
    ((s.en = 1#1 ∧ s.ps = 0b111#3) ∨ (s.en = 0#1 ∧ s.ps = 0b000#3))

/-- `CONV_ACTIVE = CTRL.START` (10_state R42). -/
abbrev ConvActiveIsStart (s : State) : Prop := s.convActive = true ↔ s.start = 1#1

/-- No conversion and no flag before the start step: 10_state R48 at IDLE, and R250 at PENDING. -/
abbrev QuietBeforeStart (s : State) : Prop :=
  s.seqState = .idle ∨ s.seqState = .pending ∨ s.seqState = .configured → s.start = 0#1 ∧ s.flag = 0#1

/-- From STARTED on the ADC is enabled, and START, FLAG and DATA_VALID are as the cycle's steps leave them (41_read_channel
R145 to R150). -/
abbrev CycleFlags (s : State) : Prop :=
  (s.seqState = .started → s.en = 1#1 ∧
    ((s.start = 1#1 ∧ s.flag = 0#1 ∧ s.dataValid = false) ∨ (s.start = 0#1 ∧ s.flag = 1#1 ∧ s.dataValid = true))) ∧
  (s.seqState = .complete → s.en = 1#1 ∧ s.start = 0#1 ∧ s.flag = 1#1 ∧ s.dataValid = true) ∧
  (s.seqState = .cleared ∨ s.seqState = .resultRead →
    s.en = 1#1 ∧ s.start = 0#1 ∧ s.flag = 0#1 ∧ s.dataValid = true) ∧
  (s.seqState = .resultRead → s.raw = combine s.datah s.datal)

/-- `CUR` spells a command of the opcode map (30_encoding R92 to R95). -/
def legalLatch (k : CmdLatch) : Bool :=
  match k.op with
  | .init => k.arg.extractLsb' 1 3 == 0#3
  | .readch => !k.arg.getLsbD 3
  | .readtemp => k.arg == 0#4

/-- While a command is in progress `CUR` spells a command of the opcode map (30_encoding R104, R92), RESULT_VALID is 0
(10_state R40), and an INIT is at PENDING (10_state R23). -/
abbrev CommandInProgress (s : State) : Prop :=
  s.seqState ≠ .idle →
    legalLatch s.cur = true ∧ s.resultValid = false ∧ (s.cur.op = .init → s.seqState = .pending)

/-- From CONFIGURED on MODE selects what the command names (41_read_channel R141, 42_read_temperature R181). -/
abbrev ModeIsConfigured (s : State) : Prop :=
  s.seqState ≠ .idle → s.seqState ≠ .pending →
    (s.cur.op = .readch → s.ref = 0b01#2 ∧ s.ch = s.cur.arg) ∧
    (s.cur.op = .readtemp → s.ref = 0b11#2 ∧ s.ch = 0b1000#4)

/-- A valid RESULT is a sample 0 to 1023 or a temperature −250 to 549 (10_state R41, 42_read_temperature R183). -/
abbrev ResultInRange (s : State) : Prop :=
  s.resultValid = true →
    (s.cur.op = .readch ∧ s.result.toNat ≤ 1023) ∨
    (s.cur.op = .readtemp ∧ -250 ≤ s.result.toInt ∧ s.result.toInt ≤ 549)

/-- The invariant of the reachable states. -/
structure BlockInv (s : State) : Prop where
  unnamed : UnnamedBitsZero s
  codes : CodesLegal s
  active : ConvActiveIsStart s
  quiet : QuietBeforeStart s
  cycle : CycleFlags s
  command : CommandInProgress s
  configured : ModeIsConfigured s
  range : ResultInRange s

/-- `k` steps of the agents in the order a stream gives them, whatever State's agenda holds (00_scope R8, 60_exceptions R220). -/
def runStream (σ : Nat → Event) : Nat → State → Answer
  | 0, s => .next s
  | k + 1, s =>
    match runStream σ k s with
    | .next t => perform (σ k) t
    | .fault f => .fault f
    | .refused r => .refused r

/-- `CONVERTER_RESPONDS`: CONV is given a turn again and again (41_read_channel R152). -/
def ConverterResponds (σ : Nat → Event) : Prop := ∀ n, ∃ m, n ≤ m ∧ ∃ v u, σ m = .conv v u

/-- SEQ is given a turn again and again: a second premise of termination, the model's own (DESIGN CHOICE, log 23); the spec
names only `CONVERTER_RESPONDS` (41_read_channel R152) and gives SEQ no fairness (00_scope R8). -/
def SequencerRuns (σ : Nat → Event) : Prop := ∀ n, ∃ m, n ≤ m ∧ σ m = .seq

/-- A premise of termination, the model's own (DESIGN CHOICE, log 23): while the command runs HOST does nothing but read
STATUS and FOREIGN does nothing (30_encoding R102 step 3, 70_reset_and_hazards R244, R249). -/
def HostWaits (σ : Nat → Event) : Prop := ∀ n, σ n = .seq ∨ σ n = .hostReadStatus ∨ ∃ v u, σ n = .conv v u

/-- The agents' steps of one read command: HOST writes `w`, SEQ configures and starts, `polls` polls see FLAG = 0, CONV
completes with `v` and `u`, and SEQ polls, clears, reads the data and delivers (41_read_channel R156). -/
def readSchedule (w : Byte) (polls : Nat) (v : Sample) (u : BitVec 6) : List Event :=
  [.hostWriteCmd w, .seq, .seq] ++ List.replicate polls .seq ++ [.conv v u, .seq, .seq, .seq, .seq]

end Sys2Proof.Safety
end

