-- ==== Sys2Proof/Certificates/Slice0/Obligations.lean ====
section
/-! DEFINITION. What is to be proved of the model. -/

open Sys2Proof Sys2Proof.Machine Sys2Proof.Safety

/-! ### Encoding -/

/-- 30_encoding R92, R97: encoding a well-formed command and decoding the word gives it back, and a word that decodes is the
encoding of the well-formed command it decodes to; READCH's operands 8 to 15 decode to the channel-range fault. -/
def Obligations.DecodeEncodeAgree : Prop :=
  (∀ i : Instr, i.WellFormed → decode (encode i) = .ok i) ∧
  (∀ (w : Byte) (i : Instr), decode w = .ok i → i.WellFormed ∧ encode i = w) ∧
  (∀ i : Instr, ¬ i.WellFormed → decode (encode i) = .error .channelRange)

/-- 30_encoding R92: the words INIT 0, INIT 1, READCH 0, READCH 7, READTEMP, and the zero word. -/
def Obligations.OpcodeMapWordsDecode : Prop :=
  decode 0x10#8 = .ok (.init false) ∧ decode 0x11#8 = .ok (.init true) ∧ decode 0x20#8 = .ok (.readch 0#4) ∧
  decode 0x27#8 = .ok (.readch 7#4) ∧ decode 0x30#8 = .ok .readtemp ∧ decode 0x00#8 = .error .illegalCmd

/-- 30_encoding R96: which words are accepted at IDLE, and which fault each of the others raises. -/
def Obligations.EveryWordIsLegalOrFaults : Prop :=
  ∀ (s : State) (w : Byte), Live s → s.seqState = .idle →
    (w ∈ [0x10#8, 0x11#8, 0x20#8, 0x21#8, 0x22#8, 0x23#8, 0x24#8, 0x25#8, 0x26#8, 0x27#8, 0x30#8] →
      ∃ t, perform (.hostWriteCmd w) s = .next t ∧ t.fault = none ∧ t.seqState = .pending) ∧
    (w.toNat / 16 ≠ 1 ∧ w.toNat / 16 ≠ 2 ∧ w.toNat / 16 ≠ 3 →
      perform (.hostWriteCmd w) s = .next { s with fault := some (.illegalCmd w) }) ∧
    ((0x12 ≤ w.toNat ∧ w.toNat ≤ 0x1F) ∨ (0x31 ≤ w.toNat ∧ w.toNat ≤ 0x3F) →
      perform (.hostWriteCmd w) s = .next { s with fault := some (.reservedOperand w) }) ∧
    (0x28 ≤ w.toNat ∧ w.toNat ≤ 0x2F →
      perform (.hostWriteCmd w) s = .next { s with fault := some (.channelRange w) })

/-- 30_encoding R100, R101: what each source line assembles to; an operand out of range is an assembly error. -/
def Obligations.AssemblerLinesGiveTheirWords : Prop :=
  (∀ n, (assemble (.readch n)).map encode = if n ≤ 7 then some (BitVec.ofNat 8 (0x20 + n)) else none) ∧
  (∀ n, (assemble (.init n)).map encode = if n ≤ 1 then some (BitVec.ofNat 8 (0x10 + n)) else none) ∧
  (assemble .readtemp).map encode = some 0x30#8 ∧
  assemble .adcon = assemble (.init 1) ∧ assemble .adcoff = assemble (.init 0)

/-! ### Steps and acceptance -/

/-- A HOST write of a word that decodes runs exec of the decoded command, once the event has left the agenda; SEQ's turn runs
exec of the command in CUR; and withFetchWord makes the very next step run the word's command (the model's choice, logs 3, 4). -/
def Obligations.StepRunsTheDecodedCommand : Prop :=
  (∀ (s : State) (w : Byte) (i : Instr) (rest : List Event), Live s → s.seqState = .idle →
    s.agenda = .hostWriteCmd w :: rest → decode w = .ok i → step s = exec i { s with agenda := rest }) ∧
  (∀ (s : State) (rest : List Event), Live s → s.seqState ≠ .idle → s.agenda = .seq :: rest →
    step s = exec s.cur.instr { s with agenda := rest }) ∧
  (∀ (s : State) (w : Byte) (i : Instr), Live s → s.seqState = .idle → decode w = .ok i →
    step (s.withFetchWord 8 w.toNat) = exec i s)

/-- 30_encoding R104: no step once a fault is recorded; the busy check first; the decoder's fault; else the latch,
RESULT_VALID cleared, PENDING, and nothing else. -/
def Obligations.HostWriteIsCheckedThenLatched : Prop :=
  ∀ (s : State) (w : Byte),
    (∀ f, s.fault = some f → perform (.hostWriteCmd w) s = .fault f) ∧
    (Live s → s.seqState ≠ .idle → perform (.hostWriteCmd w) s = .next { s with fault := some (.cmdWhileBusy w) }) ∧
    (Live s → s.seqState = .idle → ∀ d, decode w = .error d →
      perform (.hostWriteCmd w) s = .next { s with fault := some (faultOf w d) }) ∧
    (Live s → s.seqState = .idle → ∀ i, decode w = .ok i →
      perform (.hostWriteCmd w) s = .next { s with
        cur := { op := latchOp i, arg := w.extractLsb' 0 4 }, resultValid := false, seqState := .pending })

/-- Each well-formed command at IDLE is accepted, and SEQ's turn in the state acceptance leaves runs that same command
(30_encoding R104; 10_state R22, R23). -/
def Obligations.AcceptedCommandIsTheOnePerformed : Prop :=
  ∀ (s : State) (i : Instr), Live s → s.seqState = .idle → i.WellFormed →
    ∃ t, exec i s = .next t ∧ t.seqState = .pending ∧ t.resultValid = false ∧ t.cur.instr = i ∧
      perform .seq t = exec i t ∧
      { t with seqState := s.seqState, resultValid := s.resultValid, cur := s.cur } = s

/-- READCH with an operand 8 to 15 raises F_CHANNEL_RANGE at IDLE and writes no register (30_encoding R94, 60_exceptions R214;
the fault's word is the operand's own encoding, log 19). -/
def Obligations.ChannelOutOfRangeFaults : Prop :=
  ∀ (s : State) (c : Nibble), Live s → s.seqState = .idle → 8 ≤ c.toNat →
    exec (.readch c) s = .next { s with fault := some (.channelRange (BitVec.ofNat 8 (0x20 + c.toNat))) }

/-! ### INIT -/

/-- 40_init R120, R122: INIT completes with exactly the fields it names, and its frame. -/
def Obligations.InitWritesExactlyItsFields : Prop :=
  ∀ (s : State) (e : Bool), Live s → s.seqState = .pending →
    ∃ t, exec (.init e) s = .next t ∧
      t.ps = (if e then 0b111#3 else 0b000#3) ∧ t.ref = (if e then 0b01#2 else 0b00#2) ∧
      t.align = (if e then 0#1 else s.align) ∧ t.en = (if e then 1#1 else 0#1) ∧
      t.ch = s.ch ∧ t.start = s.start ∧ t.flag = s.flag ∧ t.modeUnnamed = s.modeUnnamed ∧
      t.ctrlUnnamedHi = s.ctrlUnnamedHi ∧ t.ctrlUnnamedLo = s.ctrlUnnamedLo ∧
      t.seqState = .idle ∧ { t with mode := s.mode, ctrl := s.ctrl, seqState := s.seqState } = s

/-- 40_init, "Repetition and post-conditions", which the spec derives from R120: a second INIT of the same kind changes
nothing; INIT 1 then INIT 0 clears EN, PS and REF; INIT 1 after INIT 0 restores the enabled configuration and keeps CH. -/
def Obligations.InitRepeatedAndTornDown : Prop :=
  (∀ (s t : State) (e : Bool), s.seqState = .pending → exec (.init e) s = .next t →
    (e = true → t.en = 1#1 ∧ t.ps = 0b111#3 ∧ t.ref = 0b01#2 ∧ t.align = 0#1) ∧
    (e = false → t.en = 0#1 ∧ t.ps = 0#3 ∧ t.ref = 0#2)) ∧
  (∀ (s t : State) (e : Bool), s.seqState = .pending → exec (.init e) s = .next t →
    exec (.init e) { t with seqState := .pending } = .next t) ∧
  (∀ (s t : State), s.seqState = .pending → exec (.init true) s = .next t →
    ∃ u, exec (.init false) { t with seqState := .pending } = .next u ∧ u.en = 0#1 ∧ u.ps = 0#3 ∧ u.ref = 0#2 ∧
      u.ch = s.ch) ∧
  (∀ (s t : State), s.seqState = .pending → exec (.init false) s = .next t →
    ∃ u, exec (.init true) { t with seqState := .pending } = .next u ∧ u.en = 1#1 ∧ u.ps = 0b111#3 ∧ u.ref = 0b01#2 ∧
      u.align = 0#1 ∧ u.ch = s.ch)

/-- In the states of a conversion INIT has no step: its turn changes nothing (41_read_channel R144, 10_state R23; the
unchanged turn is the model's choice, log 2). -/
def Obligations.InitHasNoConversionStep : Prop :=
  ∀ (s : State) (e : Bool), Live s → s.seqState ≠ .idle → s.seqState ≠ .pending → exec (.init e) s = .next s

/-! ### The read commands -/

/-- 41_read_channel R141: READCH's configure step; the channel field is `0 : ARG[2:0]` whatever it held. -/
def Obligations.ReadchConfiguresReferenceAndChannel : Prop :=
  ∀ (s : State) (c : Nibble), Live s → s.seqState = .pending →
    ∃ t, exec (.readch c) s = .next t ∧ t.ref = 0b01#2 ∧ t.ch.toNat = c.toNat % 8 ∧ t.align = s.align ∧
      t.modeUnnamed = s.modeUnnamed ∧ t.seqState = .configured ∧ { t with mode := s.mode, seqState := s.seqState } = s

/-- 42_read_temperature R181: READTEMP's configure step. -/
def Obligations.ReadtempConfiguresBandGapAndSensor : Prop :=
  ∀ s : State, Live s → s.seqState = .pending →
    ∃ t, exec .readtemp s = .next t ∧ t.ref = 0b11#2 ∧ t.ch = 0b1000#4 ∧ t.align = s.align ∧
      t.modeUnnamed = s.modeUnnamed ∧ t.seqState = .configured ∧ { t with mode := s.mode, seqState := s.seqState } = s

/-- 41_read_channel R145: the start step of both read commands, and its fault on a disabled ADC. -/
def Obligations.StartStepBeginsConversionOrFaults : Prop :=
  ∀ (s : State) (i : Instr), IsRead i → Live s → s.seqState = .configured →
    (s.en = 0#1 → exec i s = .next { s with fault := some (.readDisabled s.cur.op s.cur.arg) }) ∧
    (s.en = 1#1 → ∃ t, exec i s = .next t ∧ t.start = 1#1 ∧ t.convActive = true ∧ t.dataValid = false ∧
      t.seqState = .started ∧ t.en = s.en ∧ t.flag = s.flag ∧ t.ps = s.ps ∧ t.ctrlUnnamedHi = s.ctrlUnnamedHi ∧
      t.ctrlUnnamedLo = s.ctrlUnnamedLo ∧
      { t with ctrl := s.ctrl, convActive := s.convActive, dataValid := s.dataValid, seqState := s.seqState } = s)

/-- 41_read_channel R146: the poll step. -/
def Obligations.PollStepWaitsForTheFlag : Prop :=
  ∀ (s : State) (i : Instr), IsRead i → Live s → s.seqState = .started →
    (s.flag = 1#1 → exec i s = .next { s with seqState := .complete }) ∧ (s.flag = 0#1 → exec i s = .next s)

/-- 41_read_channel R148, 20_memory R68: the clear step clears FLAG and leaves every other field. -/
def Obligations.ClearStepClearsOnlyTheFlag : Prop :=
  ∀ (s : State) (i : Instr), IsRead i → Live s → s.seqState = .complete →
    ∃ t, exec i s = .next t ∧ t.flag = 0#1 ∧ t.seqState = .cleared ∧ t.en = s.en ∧ t.start = s.start ∧ t.ps = s.ps ∧
      t.ctrlUnnamedHi = s.ctrlUnnamedHi ∧ t.ctrlUnnamedLo = s.ctrlUnnamedLo ∧
      { t with ctrl := s.ctrl, seqState := s.seqState } = s

/-- 41_read_channel R149: the data-read step combines the pair. (That a left-aligned pair is refused is
93_implementation_defined item 22, log 17.) -/
def Obligations.DataReadCombinesThePair : Prop :=
  ∀ (s : State) (i : Instr), IsRead i → Live s → s.seqState = .cleared →
    (s.align = 0#1 → ∃ t, exec i s = .next t ∧ t.raw.toNat = 256 * (s.datah.toNat % 4) + s.datal.toNat ∧
      t.seqState = .resultRead ∧ { t with raw := s.raw, seqState := s.seqState } = s) ∧
    (s.align = 1#1 → exec i s = .next { s with refused := [.leftAligned] })

/-- 41_read_channel R153: READCH delivers RAW, whose bits 15:10 are 0 in every state that meets the invariant. -/
def Obligations.ReadchDeliversRaw : Prop :=
  ∀ (s : State) (c : Nibble), Live s → s.seqState = .resultRead →
    exec (.readch c) s = .next { s with result := s.raw, resultValid := true, seqState := .idle } ∧
    (BlockInv s → s.raw.toNat ≤ 1023)

/-- 42_read_temperature R188: READTEMP delivers the scaled RAW[9:0] as a 16-bit two's-complement number; RAW[15:10] is 0 in
every state that meets the invariant. -/
def Obligations.ReadtempDeliversScaledRaw : Prop :=
  ∀ s : State, Live s → s.seqState = .resultRead →
    ∃ t, exec .readtemp s = .next t ∧
      t.result.toInt = Int.tdiv (782 * ((s.raw.toNat % 1024 : Nat) : Int) - 250000) 1000 ∧
      t.resultValid = true ∧ t.seqState = .idle ∧
      { t with result := s.result, resultValid := s.resultValid, seqState := s.seqState } = s ∧
      (BlockInv s → s.raw.toNat ≤ 1023)

/-- The bytes of the ADC register space (20_memory R61) that a command's step can change: MODE in a configure step, MODE and
CTRL in INIT's, CTRL in the start and the clear step; every other address reads as before. -/
def Obligations.RegisterSpaceFrame : Prop :=
  ∀ (s t : State) (i : Instr) (a : Nat), exec i s = .next t → memRead a t ≠ memRead a s →
    (a = adcRegAddr .mode ∧ s.seqState = .pending) ∨
    (a = adcRegAddr .ctrl ∧ s.seqState = .pending ∧ ∃ e, i = .init e) ∨
    (a = adcRegAddr .ctrl ∧ IsRead i ∧ (s.seqState = .configured ∨ s.seqState = .complete))

/-- DATAH[7:2] influence nothing a command does (10_state R37): two states that agree but for those bits take steps that
agree but for those bits. -/
def Obligations.InsignificantBitsDoNotMatter : Prop :=
  ∀ (s t : State) (i : Instr) (h : Byte), h &&& 0x03#8 = s.datah &&& 0x03#8 → exec i s = .next t →
    exec i { s with datah := h } = .next { t with datah := h }

/-! ### The converter -/

/-- 41_read_channel R150: the converter's completion step, for every sample and every draw of DATAH[7:2]; not enabled while
no conversion is outstanding. (A left-aligned pair is refused: log 17.) -/
def Obligations.ConverterCompletesTheConversion : Prop :=
  ∀ (s : State) (v : Sample) (u : BitVec 6), Live s →
    (s.convActive = true → s.align = 0#1 → ∃ t, perform (.conv v u) s = .next t ∧
      t.datal.toNat = v.toNat % 256 ∧ t.datah.toNat = 4 * u.toNat + v.toNat / 256 ∧
      t.start = 0#1 ∧ t.flag = 1#1 ∧ t.convActive = false ∧ t.dataValid = true ∧
      t.en = s.en ∧ t.ps = s.ps ∧ t.ctrlUnnamedHi = s.ctrlUnnamedHi ∧ t.ctrlUnnamedLo = s.ctrlUnnamedLo ∧
      { t with datal := s.datal, datah := s.datah, ctrl := s.ctrl, convActive := s.convActive,
               dataValid := s.dataValid } = s) ∧
    (s.convActive = false → perform (.conv v u) s = .next s)

/-- 41_read_channel R154: the combine ignores DATAH[7:2], stays in 10 bits, and (the spec's own inference, "combine(DATAH,
DATAL) = s") gives back the drawn sample. -/
def Obligations.CombineArithmetic : Prop :=
  (∀ h l : Byte, (combine h l).toNat = 256 * (h.toNat % 4) + l.toNat ∧ (combine h l).toNat ≤ 1023) ∧
  (∀ (s t : State) (v : Sample) (u : BitVec 6), s.convActive = true → s.align = 0#1 → perform (.conv v u) s = .next t →
    (combine t.datah t.datal).toNat = v.toNat)

/-- While a conversion is outstanding no step changes the input it samples (the inference that 41_read_channel draws beside
R145: "neither changes while the conversion is outstanding"). -/
def Obligations.InputSelectionHeldDuringConversion : Prop :=
  ∀ (s t : State) (e : Event), BlockInv s → s.convActive = true → perform e s = .next t → t.ref = s.ref ∧ t.ch = s.ch

/-! ### The temperature scaling -/

/-- 42_read_temperature R183, R184: exact thousandths truncated toward zero, from −250 to 549; the floor differs, by one,
exactly for v = 1 to 319. -/
def Obligations.TemperatureRoundsTowardZero : Prop :=
  ∀ v : Sample, tempScale v = Int.tdiv (782 * (v.toNat : Int) - 250000) 1000 ∧
    -250 ≤ tempScale v ∧ tempScale v ≤ 549 ∧
    Int.fdiv (782 * (v.toNat : Int) - 250000) 1000 =
      (if 1 ≤ v.toNat ∧ v.toNat ≤ 319 then tempScale v - 1 else tempScale v)

/-- 42_read_temperature, the range laws that the spec derives from R183 and R185 (its sentence "TEMP_SCALE is non-decreasing
in v" and those after it). -/
def Obligations.TemperatureRangeLaws : Prop :=
  (∀ v w : Sample, v ≤ w → tempScale v ≤ tempScale w) ∧
  tempScale 0#10 = -250 ∧ tempScale 1023#10 = 549 ∧
  (∀ v : Sample, tempScale v = 0 ↔ v.toNat = 319 ∨ v.toNat = 320) ∧
  (∀ v w : Sample, w.toNat = v.toNat + 1 → tempScale w = tempScale v ∨ tempScale w = tempScale v + 1) ∧
  (∀ v : Sample, (signedByte (tempResult v) = tempScale v ↔ 155 ≤ v.toNat ∧ v.toNat ≤ 483) ∧
    (155 ≤ v.toNat ∧ v.toNat ≤ 483 ↔ -128 ≤ tempScale v ∧ tempScale v ≤ 127) ∧
    (v.toNat ≤ 154 ↔ -250 ≤ tempScale v ∧ tempScale v ≤ -129) ∧
    (484 ≤ v.toNat ↔ 128 ≤ tempScale v ∧ tempScale v ≤ 549) ∧
    (1000 * tempScale v = 782 * (v.toNat : Int) - 250000 ↔ 500 ∣ v.toNat))

/-- 42_read_temperature R185: RESULT is T in 16-bit two's complement, the signed byte is T wrapped modulo 256, and RESULT is
the byte's sign extension exactly where T fits a byte. -/
def Obligations.TemperatureResultEncoding : Prop :=
  ∀ v : Sample, (tempResult v).toInt = tempScale v ∧
    signedByte (tempResult v) = (tempScale v + 128) % 256 - 128 ∧
    (tempResult v = ((tempResult v).extractLsb' 0 8).signExtend 16 ↔ -128 ≤ tempScale v ∧ tempScale v ≤ 127)

/-- 42_read_temperature, "Agreement with floating-point evaluation", the spec's own computation: binary32
(24 significant bits) and binary64 (53) evaluation, truncated, give TEMP_SCALE (the rounding model is log 18). -/
def Obligations.FloatingPointAgrees : Prop :=
  ∀ v : Sample, floatTemp 24 v = tempScale v ∧ floatTemp 53 v = tempScale v

/-! ### HOST's and FOREIGN's accesses -/

/-- 20_memory R78, 10_state R40, 60_exceptions R216: what the HOST reads of STATUS and RESULT return; they change no state of
the block (that `hostRead` keeps the returned value is the model's choice: log 11). -/
def Obligations.HostReadsReturnStatusAndResult : Prop :=
  ∀ s : State, Live s →
    (∃ v, perform .hostReadStatus s = .next { s with hostRead := some (.status v) } ∧
      (v.getLsbD 1 = true ↔ s.seqState ≠ .idle) ∧ (v.getLsbD 0 = true ↔ s.resultValid = true)) ∧
    (s.resultValid = true → perform .hostReadResult s = .next { s with hostRead := some (.result s.result) }) ∧
    (s.resultValid = false → perform .hostReadResult s = .next { s with fault := some .resultUnavailable })

/-- 60_exceptions R217, R219: a FOREIGN access faults while BUSY and is refused while not; reads of CMD and HOST accesses to
an ADC register are refused. Nothing else changes (that a refused step only records its reason is the model's choice: log 6). -/
def Obligations.ForeignAndHostRegisterAccesses : Prop :=
  ∀ (s : State) (r : AdcReg) (k : AccessKind), Live s →
    (s.seqState ≠ .idle → perform (.foreign r k) s = .next { s with fault := some (.foreignAccess r k) }) ∧
    (s.seqState = .idle → perform (.foreign r k) s = .next { s with refused := [.foreignIdle] }) ∧
    perform .hostReadCmd s = .next { s with refused := [.cmdRead] } ∧
    perform (.hostRegister r k) s = .next { s with refused := [.hostRegister] }

/-- 60_exceptions R210: once a fault is recorded no agent has a step, so the fault and the whole state stay; a step that
records a fault does nothing else. -/
def Obligations.FaultsAreFinalAndWriteNothingElse : Prop :=
  (∀ (s : State) (f : Fault), s.fault = some f → step s = .fault f ∧ ∀ e, perform e s = .fault f) ∧
  (∀ (s t : State) (e : Event) (f : Fault), perform e s = .next t → t.fault = some f → { t with fault := none } = s)

/-- A step that records a refusal changes nothing else, and no step is taken from a state with one (60_exceptions R219; that
the machine stops is the model's choice, log 6). -/
def Obligations.RefusalsAreFinalAndWriteNothingElse : Prop :=
  (∀ (s : State) (r : Refusal) (rs : List Refusal), s.fault = none → s.refused = r :: rs →
    step s = .refused r ∧ ∀ (i : Instr), exec i s = .refused r) ∧
  (∀ (s t : State) (e : Event), perform e s = .next t → t.refused ≠ [] → { t with refused := [] } = s)

/-- A turn of an agent with no step enabled changes nothing: SEQ at IDLE, CONV with no conversion outstanding (10_state R23,
41_read_channel R150; log 2). -/
def Obligations.DisabledAgentsTurnChangesNothing : Prop :=
  ∀ s : State, Live s → (s.seqState = .idle → perform .seq s = .next s) ∧
    (s.convActive = false → ∀ v u, perform (.conv v u) s = .next s)

/-- 20_memory R61, R64: `MemRead` at each address of the table is the register's read, with no other address in the block. -/
def Obligations.MemReadNamesTheRegisters : Prop :=
  ∀ s : State, memRead 0x78 s = some s.datal ∧ memRead 0x79 s = some s.datah ∧ memRead 0x7A s = some s.ctrl ∧
    memRead 0x7C s = some s.mode ∧
    ∀ a, a ≠ 0x78 → a ≠ 0x79 → a ≠ 0x7A → a ≠ 0x7C → memRead a s = none

/-- 20_memory R67 to R69: every bus write of CTRL whose effect the spec gives has that effect and no other. FLAG: 1 clears,
0 leaves. START: 1 sets, 0 leaves. Every other bit takes the written value. A rising START with EN = 1 begins a conversion (the
EN held before the write: log 22), and no other such write changes CONV_ACTIVE or DATA_VALID (that a written-back START begins
none is log 16). Outside: a 1 at an unnamed bit (log 21), START set with EN = 0 (log 16), enabling before configuring (log 24). -/
def Obligations.CtrlWritePerBitEffects : Prop :=
  ∀ (s : State) (new : Byte), ctrlWriteDefined s new = true → ∃ t, memWrite 0x7A new s = some t ∧
    (∀ i, i < 8 → t.ctrl.getLsbD i =
      (if i = 4 then s.ctrl.getLsbD 4 && !new.getLsbD 4
       else if i = 6 then s.ctrl.getLsbD 6 || new.getLsbD 6 else new.getLsbD i)) ∧
    (s.en = 1#1 → s.start = 0#1 → new.getLsbD 6 = true → t.convActive = true ∧ t.dataValid = false) ∧
    ((new.getLsbD 6 = false ∨ s.start = 1#1) → t.convActive = s.convActive ∧ t.dataValid = s.dataValid) ∧
    { t with ctrl := s.ctrl, convActive := s.convActive, dataValid := s.dataValid } = s

/-! ### Whole-machine rules -/

/-- 10_state R23: the only transitions of SEQ_STATE, with the agent and the command each needs. -/
def Obligations.SequencerTransitionTable : Prop :=
  ∀ (s t : State) (e : Event), perform e s = .next t → s.seqState ≠ t.seqState →
    ((∃ w i, e = .hostWriteCmd w ∧ decode w = .ok i) ∧ s.seqState = .idle ∧ t.seqState = .pending) ∨
    (e = .seq ∧
      ((s.seqState = .pending ∧ s.cur.op = .init ∧ t.seqState = .idle) ∨
       (s.seqState = .pending ∧ (s.cur.op = .readch ∨ s.cur.op = .readtemp) ∧ t.seqState = .configured) ∨
       (s.seqState = .configured ∧ t.seqState = .started) ∨
       (s.seqState = .started ∧ s.flag = 1#1 ∧ t.seqState = .complete) ∨
       (s.seqState = .complete ∧ t.seqState = .cleared) ∨
       (s.seqState = .cleared ∧ t.seqState = .resultRead) ∨
       (s.seqState = .resultRead ∧ (s.cur.op = .readch ∨ s.cur.op = .readtemp) ∧ t.seqState = .idle)))

/-- 10_state R31, R32; 70_reset_and_hazards R245: only INIT's step writes EN or PS. -/
def Obligations.OnlyInitWritesEnableAndPrescaler : Prop :=
  ∀ (s t : State) (e : Event), perform e s = .next t → (t.en ≠ s.en ∨ t.ps ≠ s.ps) →
    e = .seq ∧ s.seqState = .pending ∧ s.cur.op = .init

/-- 10_state R35, R47: FLAG is set only by the converter's completion and cleared only by the clear step. -/
def Obligations.FlagSetByConverterClearedBySequencer : Prop :=
  ∀ (s t : State) (e : Event), perform e s = .next t → s.flag ≠ t.flag →
    (t.flag = 1#1 → ∃ v u, e = .conv v u) ∧ (t.flag = 0#1 → e = .seq ∧ s.seqState = .complete)

/-- 10_state R34, R47: START is set only by the start step of an enabled ADC and cleared only by the converter. -/
def Obligations.StartSetBySequencerClearedByConverter : Prop :=
  ∀ (s t : State) (e : Event), perform e s = .next t → s.start ≠ t.start →
    (t.start = 1#1 → e = .seq ∧ s.seqState = .configured ∧ s.en = 1#1) ∧ (t.start = 0#1 → ∃ v u, e = .conv v u)

/-- 20_memory R65: only the converter's completion writes the data pair; and RAW, RESULT and MODE are written only by the
steps that 10_state R46, R49 and R41 name. -/
def Obligations.WritersOfDataRawResultMode : Prop :=
  ∀ (s t : State) (e : Event), perform e s = .next t →
    ((t.datal ≠ s.datal ∨ t.datah ≠ s.datah) → s.convActive = true ∧ ∃ v u, e = .conv v u) ∧
    (t.raw ≠ s.raw → e = .seq ∧ s.seqState = .cleared) ∧
    (t.result ≠ s.result → e = .seq ∧ s.seqState = .resultRead) ∧
    (t.mode ≠ s.mode → e = .seq ∧ s.seqState = .pending) ∧
    (s.resultValid = true → t.resultValid = false → ∃ w, e = .hostWriteCmd w)

/-- 10_state R33: the unnamed bits are 0 at reset and no step of any agent changes them. -/
def Obligations.UnnamedBitsNeverWritten : Prop :=
  UnnamedBitsZero State.reset ∧
  ∀ (s t : State) (e : Event), perform e s = .next t →
    t.modeUnnamed = s.modeUnnamed ∧ t.ctrlUnnamedHi = s.ctrlUnnamedHi ∧ t.ctrlUnnamedLo = s.ctrlUnnamedLo

/-! ### Reset and invariants -/

/-- 10_state R45, 70_reset_and_hazards R240: the values the spec gives at reset; RESULT is without value in that a HOST read
faults. -/
def Obligations.ResetValues : Prop :=
  State.reset.mode = 0x00#8 ∧ State.reset.ctrl = 0x00#8 ∧ State.reset.seqState = .idle ∧
  State.reset.status = 0b00#2 ∧ State.reset.convActive = false ∧ State.reset.dataValid = false ∧
  State.reset.fault = none ∧ State.reset.refused = [] ∧
  perform .hostReadResult State.reset = .next { State.reset with fault := some .resultUnavailable }

/-- The invariant holds at reset. -/
def Obligations.ResetStateMeetsInvariant : Prop := BlockInv State.reset

/-- Every step of every agent keeps the invariant: it holds 10_state R33, R42, R43, R48, the legal codes (R26, R28, R32), the
latch, and the range of a valid RESULT. -/
def Obligations.EveryStepKeepsTheInvariant : Prop :=
  ∀ s t : State, BlockInv s → step s = .next t → BlockInv t

/-! ### Whole commands -/

/-- 41_read_channel R140, R155, R156: a READCH of an enabled block, with any number of polls that see FLAG = 0, any sample
and any insignificant bits, ends with the sample in RESULT and the post-conditions of R155. -/
def Obligations.ReadchRunDeliversTheSample : Prop :=
  ∀ (s : State) (c : Nibble) (polls : Nat) (v : Sample) (u : BitVec 6) (rest : List Event),
    Live s → s.seqState = .idle → s.en = 1#1 → s.align = 0#1 → s.flag = 0#1 → s.start = 0#1 → c.toNat ≤ 7 →
    s.agenda = readSchedule (BitVec.ofNat 8 (0x20 + c.toNat)) polls v u ++ rest →
    ∃ t : State, core.run (polls + 8) s = .next t ∧ t.result.toNat = v.toNat ∧ t.resultValid = true ∧
      t.seqState = .idle ∧ t.ch = c ∧ t.ref = 0b01#2 ∧ t.align = 0#1 ∧ t.flag = 0#1 ∧ t.start = 0#1 ∧ t.en = 1#1 ∧
      t.ps = s.ps ∧ Live t ∧ t.agenda = rest

/-- 42_read_temperature R180, R189: the same for READTEMP, with the scaled sample in RESULT. -/
def Obligations.ReadtempRunDeliversTheTemperature : Prop :=
  ∀ (s : State) (polls : Nat) (v : Sample) (u : BitVec 6) (rest : List Event),
    Live s → s.seqState = .idle → s.en = 1#1 → s.align = 0#1 → s.flag = 0#1 → s.start = 0#1 →
    s.agenda = readSchedule 0x30#8 polls v u ++ rest →
    ∃ t : State, core.run (polls + 8) s = .next t ∧
      t.result.toInt = Int.tdiv (782 * (v.toNat : Int) - 250000) 1000 ∧ t.resultValid = true ∧
      t.seqState = .idle ∧ t.ch = 0b1000#4 ∧ t.ref = 0b11#2 ∧ t.align = 0#1 ∧ t.flag = 0#1 ∧ t.start = 0#1 ∧
      t.en = 1#1 ∧ t.ps = s.ps ∧ Live t ∧ t.agenda = rest

/-- 60_exceptions R218, 41_read_channel R147: with a converter that never completes, SEQ polls forever and nothing changes:
a hang, not a fault. -/
def Obligations.SilentConverterHangs : Prop :=
  ∀ (s : State) (k : Nat), Live s → s.seqState = .started → s.cur.op ≠ .init → s.flag = 0#1 →
    runStream (fun _ => .seq) k s = .next s

/-- 41_read_channel R152: with CONVERTER_RESPONDS, SEQ running and HOST waiting, every read command in progress on an
enabled block ends without a fault and with a valid result. That SEQ runs and HOST waits are the model's own premises (log 23). -/
def Obligations.ReadsEndIfConverterResponds : Prop :=
  ∀ (σ : Nat → Event) (s : State), ConverterResponds σ → SequencerRuns σ → HostWaits σ →
    BlockInv s → Live s → s.seqState ≠ .idle → s.cur.op ≠ .init → s.en = 1#1 →
    ∃ (k : Nat) (t : State), runStream σ k s = .next t ∧ t.seqState = .idle ∧ t.resultValid = true ∧ Live t
end

