-- ==== Sys2Proof/Laws/Layout.lean ====
section
/-! SUPPORT. Reading a field after a field was replaced. -/

namespace Sys2Proof.Machine

theorem getLsbD_setField {n : Nat} (w : Byte) (p : Nat) (v : BitVec n) (i : Nat) (hi : i < 8) :
    (setField w p v).getLsbD i = if p ≤ i ∧ i < p + n then v.getLsbD (i - p) else w.getLsbD i := by
  unfold setField
  by_cases h1 : p ≤ i
  · by_cases h2 : i < p + n
    · have h3 : i - p < n := by omega
      simp [hi, h1, h2, h3, Nat.not_lt.mpr h1]
    · have h3 : ¬ (i - p < n) := by omega
      simp [hi, h1, h2, h3, Nat.not_lt.mpr h1, BitVec.getLsbD_of_ge v (i - p) (by omega)]
  · simp [hi, h1, Nat.lt_of_not_le h1]

/-- A replaced field reads as the new value. -/
@[simp] theorem getField_setField_same {n : Nat} (w : Byte) (p : Nat) (v : BitVec n) (hp : p + n ≤ 8) :
    getField (setField w p v) p n = v := by
  apply BitVec.eq_of_getLsbD_eq
  intro i hi
  simp only [getField, BitVec.getLsbD_extractLsb', hi, decide_true, Bool.true_and]
  rw [getLsbD_setField w p v (p + i) (by omega)]
  simp [hi]

/-- Replacing a field keeps every field it does not overlap. -/
@[simp] theorem getField_setField_other {n : Nat} (w : Byte) (p : Nat) (v : BitVec n) (q m : Nat)
    (hq : q + m ≤ 8) (h : q + m ≤ p ∨ p + n ≤ q) : getField (setField w p v) q m = getField w q m := by
  apply BitVec.eq_of_getLsbD_eq
  intro i hi
  simp only [getField, BitVec.getLsbD_extractLsb', hi, decide_true, Bool.true_and]
  rw [getLsbD_setField w p v (q + i) (by omega), if_neg (by omega)]

/-- Putting a field's own value back changes nothing. -/
theorem setField_getField (w : Byte) (p n : Nat) : setField w p (getField w p n) = w := by
  apply BitVec.eq_of_getLsbD_eq
  intro i hi
  rw [getLsbD_setField w p _ i hi]
  split
  · rename_i h
    have h2 : i - p < n := by omega
    have h3 : p + (i - p) = i := by omega
    simp [getField, h2, h3]
  · rfl

/-- The later of two replacements of one field counts. -/
theorem setField_setField_same {n : Nat} (w : Byte) (p : Nat) (u v : BitVec n) :
    setField (setField w p u) p v = setField w p v := by
  apply BitVec.eq_of_getLsbD_eq
  intro i hi
  simp only [getLsbD_setField _ _ _ i hi]
  split <;> simp_all

/-- Replacements of fields that do not overlap may be made in either order. -/
theorem setField_comm {m n : Nat} (w : Byte) (p q : Nat) (u : BitVec m) (v : BitVec n)
    (h : q + n ≤ p ∨ p + m ≤ q) : setField (setField w p u) q v = setField (setField w q v) p u := by
  apply BitVec.eq_of_getLsbD_eq
  intro i hi
  simp only [getLsbD_setField _ _ _ i hi]
  split <;> split <;> first | rfl | omega

end Sys2Proof.Machine
end

