-- ==== Sys2Proof/Laws/State.lean ====
section
/-! SUPPORT. What each update of the state writes and keeps: one lemma per field per update. -/

namespace Sys2Proof.Machine

@[simp] theorem State.setMode_mode (s : State) (v : Byte) : (s.setMode v).mode = v := rfl
@[simp] theorem State.setMode_ctrl (s : State) (v : Byte) : (s.setMode v).ctrl = s.ctrl := rfl
@[simp] theorem State.setMode_datal (s : State) (v : Byte) : (s.setMode v).datal = s.datal := rfl
@[simp] theorem State.setMode_datah (s : State) (v : Byte) : (s.setMode v).datah = s.datah := rfl
@[simp] theorem State.setMode_seqState (s : State) (v : Byte) : (s.setMode v).seqState = s.seqState := rfl
@[simp] theorem State.setMode_cur (s : State) (v : Byte) : (s.setMode v).cur = s.cur := rfl
@[simp] theorem State.setMode_raw (s : State) (v : Byte) : (s.setMode v).raw = s.raw := rfl
@[simp] theorem State.setMode_resultValid (s : State) (v : Byte) : (s.setMode v).resultValid = s.resultValid := rfl
@[simp] theorem State.setMode_result (s : State) (v : Byte) : (s.setMode v).result = s.result := rfl
@[simp] theorem State.setMode_convActive (s : State) (v : Byte) : (s.setMode v).convActive = s.convActive := rfl
@[simp] theorem State.setMode_dataValid (s : State) (v : Byte) : (s.setMode v).dataValid = s.dataValid := rfl
@[simp] theorem State.setMode_fault (s : State) (v : Byte) : (s.setMode v).fault = s.fault := rfl
@[simp] theorem State.setMode_refused (s : State) (v : Byte) : (s.setMode v).refused = s.refused := rfl
@[simp] theorem State.setMode_agenda (s : State) (v : Byte) : (s.setMode v).agenda = s.agenda := rfl
@[simp] theorem State.setMode_tick (s : State) (v : Byte) : (s.setMode v).tick = s.tick := rfl
@[simp] theorem State.setMode_hostRead (s : State) (v : Byte) : (s.setMode v).hostRead = s.hostRead := rfl

@[simp] theorem State.setCtrl_mode (s : State) (v : Byte) : (s.setCtrl v).mode = s.mode := rfl
@[simp] theorem State.setCtrl_ctrl (s : State) (v : Byte) : (s.setCtrl v).ctrl = v := rfl
@[simp] theorem State.setCtrl_datal (s : State) (v : Byte) : (s.setCtrl v).datal = s.datal := rfl
@[simp] theorem State.setCtrl_datah (s : State) (v : Byte) : (s.setCtrl v).datah = s.datah := rfl
@[simp] theorem State.setCtrl_seqState (s : State) (v : Byte) : (s.setCtrl v).seqState = s.seqState := rfl
@[simp] theorem State.setCtrl_cur (s : State) (v : Byte) : (s.setCtrl v).cur = s.cur := rfl
@[simp] theorem State.setCtrl_raw (s : State) (v : Byte) : (s.setCtrl v).raw = s.raw := rfl
@[simp] theorem State.setCtrl_resultValid (s : State) (v : Byte) : (s.setCtrl v).resultValid = s.resultValid := rfl
@[simp] theorem State.setCtrl_result (s : State) (v : Byte) : (s.setCtrl v).result = s.result := rfl
@[simp] theorem State.setCtrl_convActive (s : State) (v : Byte) : (s.setCtrl v).convActive = s.convActive := rfl
@[simp] theorem State.setCtrl_dataValid (s : State) (v : Byte) : (s.setCtrl v).dataValid = s.dataValid := rfl
@[simp] theorem State.setCtrl_fault (s : State) (v : Byte) : (s.setCtrl v).fault = s.fault := rfl
@[simp] theorem State.setCtrl_refused (s : State) (v : Byte) : (s.setCtrl v).refused = s.refused := rfl
@[simp] theorem State.setCtrl_agenda (s : State) (v : Byte) : (s.setCtrl v).agenda = s.agenda := rfl
@[simp] theorem State.setCtrl_tick (s : State) (v : Byte) : (s.setCtrl v).tick = s.tick := rfl
@[simp] theorem State.setCtrl_hostRead (s : State) (v : Byte) : (s.setCtrl v).hostRead = s.hostRead := rfl

@[simp] theorem State.setSeq_mode (s : State) (q : SeqState) : (s.setSeq q).mode = s.mode := rfl
@[simp] theorem State.setSeq_ctrl (s : State) (q : SeqState) : (s.setSeq q).ctrl = s.ctrl := rfl
@[simp] theorem State.setSeq_datal (s : State) (q : SeqState) : (s.setSeq q).datal = s.datal := rfl
@[simp] theorem State.setSeq_datah (s : State) (q : SeqState) : (s.setSeq q).datah = s.datah := rfl
@[simp] theorem State.setSeq_seqState (s : State) (q : SeqState) : (s.setSeq q).seqState = q := rfl
@[simp] theorem State.setSeq_cur (s : State) (q : SeqState) : (s.setSeq q).cur = s.cur := rfl
@[simp] theorem State.setSeq_raw (s : State) (q : SeqState) : (s.setSeq q).raw = s.raw := rfl
@[simp] theorem State.setSeq_resultValid (s : State) (q : SeqState) : (s.setSeq q).resultValid = s.resultValid := rfl
@[simp] theorem State.setSeq_result (s : State) (q : SeqState) : (s.setSeq q).result = s.result := rfl
@[simp] theorem State.setSeq_convActive (s : State) (q : SeqState) : (s.setSeq q).convActive = s.convActive := rfl
@[simp] theorem State.setSeq_dataValid (s : State) (q : SeqState) : (s.setSeq q).dataValid = s.dataValid := rfl
@[simp] theorem State.setSeq_fault (s : State) (q : SeqState) : (s.setSeq q).fault = s.fault := rfl
@[simp] theorem State.setSeq_refused (s : State) (q : SeqState) : (s.setSeq q).refused = s.refused := rfl
@[simp] theorem State.setSeq_agenda (s : State) (q : SeqState) : (s.setSeq q).agenda = s.agenda := rfl
@[simp] theorem State.setSeq_tick (s : State) (q : SeqState) : (s.setSeq q).tick = s.tick := rfl
@[simp] theorem State.setSeq_hostRead (s : State) (q : SeqState) : (s.setSeq q).hostRead = s.hostRead := rfl

@[simp] theorem State.latch_mode (s : State) (k : CmdLatch) : (s.latch k).mode = s.mode := rfl
@[simp] theorem State.latch_ctrl (s : State) (k : CmdLatch) : (s.latch k).ctrl = s.ctrl := rfl
@[simp] theorem State.latch_datal (s : State) (k : CmdLatch) : (s.latch k).datal = s.datal := rfl
@[simp] theorem State.latch_datah (s : State) (k : CmdLatch) : (s.latch k).datah = s.datah := rfl
@[simp] theorem State.latch_seqState (s : State) (k : CmdLatch) : (s.latch k).seqState = .pending := rfl
@[simp] theorem State.latch_cur (s : State) (k : CmdLatch) : (s.latch k).cur = k := rfl
@[simp] theorem State.latch_raw (s : State) (k : CmdLatch) : (s.latch k).raw = s.raw := rfl
@[simp] theorem State.latch_resultValid (s : State) (k : CmdLatch) : (s.latch k).resultValid = false := rfl
@[simp] theorem State.latch_result (s : State) (k : CmdLatch) : (s.latch k).result = s.result := rfl
@[simp] theorem State.latch_convActive (s : State) (k : CmdLatch) : (s.latch k).convActive = s.convActive := rfl
@[simp] theorem State.latch_dataValid (s : State) (k : CmdLatch) : (s.latch k).dataValid = s.dataValid := rfl
@[simp] theorem State.latch_fault (s : State) (k : CmdLatch) : (s.latch k).fault = s.fault := rfl
@[simp] theorem State.latch_refused (s : State) (k : CmdLatch) : (s.latch k).refused = s.refused := rfl
@[simp] theorem State.latch_agenda (s : State) (k : CmdLatch) : (s.latch k).agenda = s.agenda := rfl
@[simp] theorem State.latch_tick (s : State) (k : CmdLatch) : (s.latch k).tick = s.tick := rfl
@[simp] theorem State.latch_hostRead (s : State) (k : CmdLatch) : (s.latch k).hostRead = s.hostRead := rfl

@[simp] theorem State.beginConversion_mode (s : State) : (s.beginConversion).mode = s.mode := rfl
@[simp] theorem State.beginConversion_ctrl (s : State) : (s.beginConversion).ctrl = s.ctrl := rfl
@[simp] theorem State.beginConversion_datal (s : State) : (s.beginConversion).datal = s.datal := rfl
@[simp] theorem State.beginConversion_datah (s : State) : (s.beginConversion).datah = s.datah := rfl
@[simp] theorem State.beginConversion_seqState (s : State) : (s.beginConversion).seqState = s.seqState := rfl
@[simp] theorem State.beginConversion_cur (s : State) : (s.beginConversion).cur = s.cur := rfl
@[simp] theorem State.beginConversion_raw (s : State) : (s.beginConversion).raw = s.raw := rfl
@[simp] theorem State.beginConversion_resultValid (s : State) : (s.beginConversion).resultValid = s.resultValid := rfl
@[simp] theorem State.beginConversion_result (s : State) : (s.beginConversion).result = s.result := rfl
@[simp] theorem State.beginConversion_convActive (s : State) : (s.beginConversion).convActive = true := rfl
@[simp] theorem State.beginConversion_dataValid (s : State) : (s.beginConversion).dataValid = false := rfl
@[simp] theorem State.beginConversion_fault (s : State) : (s.beginConversion).fault = s.fault := rfl
@[simp] theorem State.beginConversion_refused (s : State) : (s.beginConversion).refused = s.refused := rfl
@[simp] theorem State.beginConversion_agenda (s : State) : (s.beginConversion).agenda = s.agenda := rfl
@[simp] theorem State.beginConversion_tick (s : State) : (s.beginConversion).tick = s.tick := rfl
@[simp] theorem State.beginConversion_hostRead (s : State) : (s.beginConversion).hostRead = s.hostRead := rfl

@[simp] theorem State.endConversion_mode (s : State) (l h : Byte) : (s.endConversion l h).mode = s.mode := rfl
@[simp] theorem State.endConversion_ctrl (s : State) (l h : Byte) : (s.endConversion l h).ctrl = s.ctrl := rfl
@[simp] theorem State.endConversion_datal (s : State) (l h : Byte) : (s.endConversion l h).datal = l := rfl
@[simp] theorem State.endConversion_datah (s : State) (l h : Byte) : (s.endConversion l h).datah = h := rfl
@[simp] theorem State.endConversion_seqState (s : State) (l h : Byte) : (s.endConversion l h).seqState = s.seqState := rfl
@[simp] theorem State.endConversion_cur (s : State) (l h : Byte) : (s.endConversion l h).cur = s.cur := rfl
@[simp] theorem State.endConversion_raw (s : State) (l h : Byte) : (s.endConversion l h).raw = s.raw := rfl
@[simp] theorem State.endConversion_resultValid (s : State) (l h : Byte) : (s.endConversion l h).resultValid = s.resultValid := rfl
@[simp] theorem State.endConversion_result (s : State) (l h : Byte) : (s.endConversion l h).result = s.result := rfl
@[simp] theorem State.endConversion_convActive (s : State) (l h : Byte) : (s.endConversion l h).convActive = false := rfl
@[simp] theorem State.endConversion_dataValid (s : State) (l h : Byte) : (s.endConversion l h).dataValid = true := rfl
@[simp] theorem State.endConversion_fault (s : State) (l h : Byte) : (s.endConversion l h).fault = s.fault := rfl
@[simp] theorem State.endConversion_refused (s : State) (l h : Byte) : (s.endConversion l h).refused = s.refused := rfl
@[simp] theorem State.endConversion_agenda (s : State) (l h : Byte) : (s.endConversion l h).agenda = s.agenda := rfl
@[simp] theorem State.endConversion_tick (s : State) (l h : Byte) : (s.endConversion l h).tick = s.tick := rfl
@[simp] theorem State.endConversion_hostRead (s : State) (l h : Byte) : (s.endConversion l h).hostRead = s.hostRead := rfl

@[simp] theorem State.setRaw_mode (s : State) (v : Word16) : (s.setRaw v).mode = s.mode := rfl
@[simp] theorem State.setRaw_ctrl (s : State) (v : Word16) : (s.setRaw v).ctrl = s.ctrl := rfl
@[simp] theorem State.setRaw_datal (s : State) (v : Word16) : (s.setRaw v).datal = s.datal := rfl
@[simp] theorem State.setRaw_datah (s : State) (v : Word16) : (s.setRaw v).datah = s.datah := rfl
@[simp] theorem State.setRaw_seqState (s : State) (v : Word16) : (s.setRaw v).seqState = s.seqState := rfl
@[simp] theorem State.setRaw_cur (s : State) (v : Word16) : (s.setRaw v).cur = s.cur := rfl
@[simp] theorem State.setRaw_raw (s : State) (v : Word16) : (s.setRaw v).raw = v := rfl
@[simp] theorem State.setRaw_resultValid (s : State) (v : Word16) : (s.setRaw v).resultValid = s.resultValid := rfl
@[simp] theorem State.setRaw_result (s : State) (v : Word16) : (s.setRaw v).result = s.result := rfl
@[simp] theorem State.setRaw_convActive (s : State) (v : Word16) : (s.setRaw v).convActive = s.convActive := rfl
@[simp] theorem State.setRaw_dataValid (s : State) (v : Word16) : (s.setRaw v).dataValid = s.dataValid := rfl
@[simp] theorem State.setRaw_fault (s : State) (v : Word16) : (s.setRaw v).fault = s.fault := rfl
@[simp] theorem State.setRaw_refused (s : State) (v : Word16) : (s.setRaw v).refused = s.refused := rfl
@[simp] theorem State.setRaw_agenda (s : State) (v : Word16) : (s.setRaw v).agenda = s.agenda := rfl
@[simp] theorem State.setRaw_tick (s : State) (v : Word16) : (s.setRaw v).tick = s.tick := rfl
@[simp] theorem State.setRaw_hostRead (s : State) (v : Word16) : (s.setRaw v).hostRead = s.hostRead := rfl

@[simp] theorem State.publish_mode (s : State) (v : Word16) : (s.publish v).mode = s.mode := rfl
@[simp] theorem State.publish_ctrl (s : State) (v : Word16) : (s.publish v).ctrl = s.ctrl := rfl
@[simp] theorem State.publish_datal (s : State) (v : Word16) : (s.publish v).datal = s.datal := rfl
@[simp] theorem State.publish_datah (s : State) (v : Word16) : (s.publish v).datah = s.datah := rfl
@[simp] theorem State.publish_seqState (s : State) (v : Word16) : (s.publish v).seqState = s.seqState := rfl
@[simp] theorem State.publish_cur (s : State) (v : Word16) : (s.publish v).cur = s.cur := rfl
@[simp] theorem State.publish_raw (s : State) (v : Word16) : (s.publish v).raw = s.raw := rfl
@[simp] theorem State.publish_resultValid (s : State) (v : Word16) : (s.publish v).resultValid = true := rfl
@[simp] theorem State.publish_result (s : State) (v : Word16) : (s.publish v).result = v := rfl
@[simp] theorem State.publish_convActive (s : State) (v : Word16) : (s.publish v).convActive = s.convActive := rfl
@[simp] theorem State.publish_dataValid (s : State) (v : Word16) : (s.publish v).dataValid = s.dataValid := rfl
@[simp] theorem State.publish_fault (s : State) (v : Word16) : (s.publish v).fault = s.fault := rfl
@[simp] theorem State.publish_refused (s : State) (v : Word16) : (s.publish v).refused = s.refused := rfl
@[simp] theorem State.publish_agenda (s : State) (v : Word16) : (s.publish v).agenda = s.agenda := rfl
@[simp] theorem State.publish_tick (s : State) (v : Word16) : (s.publish v).tick = s.tick := rfl
@[simp] theorem State.publish_hostRead (s : State) (v : Word16) : (s.publish v).hostRead = s.hostRead := rfl

@[simp] theorem State.replyHost_mode (s : State) (r : HostReply) : (s.replyHost r).mode = s.mode := rfl
@[simp] theorem State.replyHost_ctrl (s : State) (r : HostReply) : (s.replyHost r).ctrl = s.ctrl := rfl
@[simp] theorem State.replyHost_datal (s : State) (r : HostReply) : (s.replyHost r).datal = s.datal := rfl
@[simp] theorem State.replyHost_datah (s : State) (r : HostReply) : (s.replyHost r).datah = s.datah := rfl
@[simp] theorem State.replyHost_seqState (s : State) (r : HostReply) : (s.replyHost r).seqState = s.seqState := rfl
@[simp] theorem State.replyHost_cur (s : State) (r : HostReply) : (s.replyHost r).cur = s.cur := rfl
@[simp] theorem State.replyHost_raw (s : State) (r : HostReply) : (s.replyHost r).raw = s.raw := rfl
@[simp] theorem State.replyHost_resultValid (s : State) (r : HostReply) : (s.replyHost r).resultValid = s.resultValid := rfl
@[simp] theorem State.replyHost_result (s : State) (r : HostReply) : (s.replyHost r).result = s.result := rfl
@[simp] theorem State.replyHost_convActive (s : State) (r : HostReply) : (s.replyHost r).convActive = s.convActive := rfl
@[simp] theorem State.replyHost_dataValid (s : State) (r : HostReply) : (s.replyHost r).dataValid = s.dataValid := rfl
@[simp] theorem State.replyHost_fault (s : State) (r : HostReply) : (s.replyHost r).fault = s.fault := rfl
@[simp] theorem State.replyHost_refused (s : State) (r : HostReply) : (s.replyHost r).refused = s.refused := rfl
@[simp] theorem State.replyHost_agenda (s : State) (r : HostReply) : (s.replyHost r).agenda = s.agenda := rfl
@[simp] theorem State.replyHost_tick (s : State) (r : HostReply) : (s.replyHost r).tick = s.tick := rfl
@[simp] theorem State.replyHost_hostRead (s : State) (r : HostReply) : (s.replyHost r).hostRead = some r := rfl

@[simp] theorem State.recordFault_mode (s : State) (f : Fault) : (s.recordFault f).mode = s.mode := rfl
@[simp] theorem State.recordFault_ctrl (s : State) (f : Fault) : (s.recordFault f).ctrl = s.ctrl := rfl
@[simp] theorem State.recordFault_datal (s : State) (f : Fault) : (s.recordFault f).datal = s.datal := rfl
@[simp] theorem State.recordFault_datah (s : State) (f : Fault) : (s.recordFault f).datah = s.datah := rfl
@[simp] theorem State.recordFault_seqState (s : State) (f : Fault) : (s.recordFault f).seqState = s.seqState := rfl
@[simp] theorem State.recordFault_cur (s : State) (f : Fault) : (s.recordFault f).cur = s.cur := rfl
@[simp] theorem State.recordFault_raw (s : State) (f : Fault) : (s.recordFault f).raw = s.raw := rfl
@[simp] theorem State.recordFault_resultValid (s : State) (f : Fault) : (s.recordFault f).resultValid = s.resultValid := rfl
@[simp] theorem State.recordFault_result (s : State) (f : Fault) : (s.recordFault f).result = s.result := rfl
@[simp] theorem State.recordFault_convActive (s : State) (f : Fault) : (s.recordFault f).convActive = s.convActive := rfl
@[simp] theorem State.recordFault_dataValid (s : State) (f : Fault) : (s.recordFault f).dataValid = s.dataValid := rfl
@[simp] theorem State.recordFault_refused (s : State) (f : Fault) : (s.recordFault f).refused = s.refused := rfl
@[simp] theorem State.recordFault_agenda (s : State) (f : Fault) : (s.recordFault f).agenda = s.agenda := rfl
@[simp] theorem State.recordFault_tick (s : State) (f : Fault) : (s.recordFault f).tick = s.tick := rfl
@[simp] theorem State.recordFault_hostRead (s : State) (f : Fault) : (s.recordFault f).hostRead = s.hostRead := rfl
@[simp] theorem State.recordFault_fault (s : State) (f : Fault) (h : s.fault = none) : (s.recordFault f).fault = some f := by
  simp [State.recordFault, h]

@[simp] theorem State.recordRefusal_mode (s : State) (r : Refusal) : (s.recordRefusal r).mode = s.mode := rfl
@[simp] theorem State.recordRefusal_ctrl (s : State) (r : Refusal) : (s.recordRefusal r).ctrl = s.ctrl := rfl
@[simp] theorem State.recordRefusal_datal (s : State) (r : Refusal) : (s.recordRefusal r).datal = s.datal := rfl
@[simp] theorem State.recordRefusal_datah (s : State) (r : Refusal) : (s.recordRefusal r).datah = s.datah := rfl
@[simp] theorem State.recordRefusal_seqState (s : State) (r : Refusal) : (s.recordRefusal r).seqState = s.seqState := rfl
@[simp] theorem State.recordRefusal_cur (s : State) (r : Refusal) : (s.recordRefusal r).cur = s.cur := rfl
@[simp] theorem State.recordRefusal_raw (s : State) (r : Refusal) : (s.recordRefusal r).raw = s.raw := rfl
@[simp] theorem State.recordRefusal_resultValid (s : State) (r : Refusal) : (s.recordRefusal r).resultValid = s.resultValid := rfl
@[simp] theorem State.recordRefusal_result (s : State) (r : Refusal) : (s.recordRefusal r).result = s.result := rfl
@[simp] theorem State.recordRefusal_convActive (s : State) (r : Refusal) : (s.recordRefusal r).convActive = s.convActive := rfl
@[simp] theorem State.recordRefusal_dataValid (s : State) (r : Refusal) : (s.recordRefusal r).dataValid = s.dataValid := rfl
@[simp] theorem State.recordRefusal_fault (s : State) (r : Refusal) : (s.recordRefusal r).fault = s.fault := rfl
@[simp] theorem State.recordRefusal_agenda (s : State) (r : Refusal) : (s.recordRefusal r).agenda = s.agenda := rfl
@[simp] theorem State.recordRefusal_tick (s : State) (r : Refusal) : (s.recordRefusal r).tick = s.tick := rfl
@[simp] theorem State.recordRefusal_hostRead (s : State) (r : Refusal) : (s.recordRefusal r).hostRead = s.hostRead := rfl
@[simp] theorem State.recordRefusal_refused (s : State) (r : Refusal) (h : s.refused = []) :
    (s.recordRefusal r).refused = [r] := by
  simp [State.recordRefusal, h]

@[simp] theorem State.takeEvent_mode (s : State) : s.takeEvent.mode = s.mode := by
  unfold State.takeEvent; split <;> rfl
@[simp] theorem State.takeEvent_ctrl (s : State) : s.takeEvent.ctrl = s.ctrl := by
  unfold State.takeEvent; split <;> rfl
@[simp] theorem State.takeEvent_datal (s : State) : s.takeEvent.datal = s.datal := by
  unfold State.takeEvent; split <;> rfl
@[simp] theorem State.takeEvent_datah (s : State) : s.takeEvent.datah = s.datah := by
  unfold State.takeEvent; split <;> rfl
@[simp] theorem State.takeEvent_seqState (s : State) : s.takeEvent.seqState = s.seqState := by
  unfold State.takeEvent; split <;> rfl
@[simp] theorem State.takeEvent_cur (s : State) : s.takeEvent.cur = s.cur := by
  unfold State.takeEvent; split <;> rfl
@[simp] theorem State.takeEvent_raw (s : State) : s.takeEvent.raw = s.raw := by
  unfold State.takeEvent; split <;> rfl
@[simp] theorem State.takeEvent_resultValid (s : State) : s.takeEvent.resultValid = s.resultValid := by
  unfold State.takeEvent; split <;> rfl
@[simp] theorem State.takeEvent_result (s : State) : s.takeEvent.result = s.result := by
  unfold State.takeEvent; split <;> rfl
@[simp] theorem State.takeEvent_convActive (s : State) : s.takeEvent.convActive = s.convActive := by
  unfold State.takeEvent; split <;> rfl
@[simp] theorem State.takeEvent_dataValid (s : State) : s.takeEvent.dataValid = s.dataValid := by
  unfold State.takeEvent; split <;> rfl
@[simp] theorem State.takeEvent_fault (s : State) : s.takeEvent.fault = s.fault := by
  unfold State.takeEvent; split <;> rfl
@[simp] theorem State.takeEvent_refused (s : State) : s.takeEvent.refused = s.refused := by
  unfold State.takeEvent; split <;> rfl
@[simp] theorem State.takeEvent_hostRead (s : State) : s.takeEvent.hostRead = s.hostRead := by
  unfold State.takeEvent; split <;> rfl

theorem State.takeEvent_cons (s : State) (e : Event) (rest : List Event) (h : s.agenda = e :: rest) :
    s.takeEvent = { s with agenda := rest } := by
  simp [State.takeEvent, h]

theorem State.nextEvent_cons (s : State) (e : Event) (rest : List Event) (h : s.agenda = e :: rest) :
    s.nextEvent = e := by
  simp [State.nextEvent, h]

end Sys2Proof.Machine
end

