-- ==== Sys2Proof/Laws/Ops.lean ====
section
/-! SUPPORT. What each shared operation does, said once: the register accesses, the recorded fault and refusal, the guard. -/

namespace Sys2Proof.Machine

/-- While no fault and no refusal is recorded the guard is transparent. -/
theorem guarded_live (s : State) (k : Answer) (hf : s.fault = none) (hr : s.refused = []) : guarded s k = k := by
  simp [guarded, hf, hr]

/-- A guarded answer is a next state only where nothing was recorded and the step gave it. -/
theorem guarded_next (s t : State) (k : Answer) (h : guarded s k = .next t) :
    s.fault = none ∧ s.refused = [] ∧ k = .next t := by
  unfold guarded at h
  split at h <;> simp_all

/-- Where a fault is recorded the guarded answer is that fault. -/
theorem guarded_fault (s : State) (k : Answer) (f : Fault) (hf : s.fault = some f) : guarded s k = .fault f := by
  simp [guarded, hf]

@[simp] theorem writeModeField_eq {n : Nat} (p : Nat) (v : BitVec n) (s : State) :
    writeModeField p v s = s.setMode (setField s.mode p v) := rfl

/-- The bits of `CTRL` after a bus write (20_memory R67 to R69). -/
theorem getLsbD_ctrlAfterWrite (old new : Byte) (i : Nat) (hi : i < 8) :
    (ctrlAfterWrite old new).getLsbD i =
      if i = startPos then old.getLsbD startPos || new.getLsbD startPos
      else if i = flagPos then old.getLsbD flagPos && !new.getLsbD flagPos
      else new.getLsbD i := by
  unfold ctrlAfterWrite
  rw [getLsbD_setField _ _ _ i hi]
  by_cases h6 : i = 6
  · subst h6; simp [startPos, getField]
  · rw [if_neg (by simp [startPos]; omega), getLsbD_setField _ _ _ i hi]
    by_cases h4 : i = 4
    · subst h4; simp [startPos, flagPos, getField]
    · rw [if_neg (by simp [flagPos]; omega)]
      simp [startPos, flagPos, h6, h4]

/-- Writing back a value whose START is the register's own starts no conversion. -/
theorem startsConversion_eq_false (old new : Byte) (h : getField new startPos 1 = getField old startPos 1) :
    startsConversion old new = false := by
  have hb : ∀ b : BitVec 1, ((b == 0#1) && (b == 1#1)) = false := by decide
  rw [startsConversion, h, Bool.and_assoc, hb, Bool.and_false]

/-- A write of `CTRL` that puts START back changes `CTRL` and nothing else. -/
theorem writeCtrl_eq (new : Byte) (s : State) (h : getField new startPos 1 = getField s.ctrl startPos 1) :
    writeCtrl new s = s.setCtrl (ctrlAfterWrite s.ctrl new) := by
  simp [writeCtrl, startsConversion_eq_false _ _ h]

/-- A field write of `CTRL` to a field other than START and FLAG replaces that field and nothing else (20_memory R66). -/
theorem writeCtrlField_eq {n : Nat} (p : Nat) (v : BitVec n) (s : State)
    (hs : startPos + 1 ≤ p ∨ p + n ≤ startPos) (hf : flagPos + 1 ≤ p ∨ p + n ≤ flagPos) :
    writeCtrlField p v s = s.setCtrl (setField s.ctrl p v) := by
  unfold writeCtrlField
  simp only [startPos, flagPos, regRead] at *
  rw [writeCtrl_eq _ _ (by
    rw [getField_setField_other _ _ _ _ _ (by simp [startPos]) (by simp [startPos]),
      getField_setField_other _ _ _ _ _ (by simp [startPos]) (by simpa [startPos] using hs)])]
  congr 1
  apply BitVec.eq_of_getLsbD_eq
  intro i hi
  rw [getLsbD_ctrlAfterWrite _ _ i hi]
  simp only [startPos, flagPos]
  by_cases h6 : i = 6
  · subst h6
    rw [if_pos rfl]
    simp only [getLsbD_setField _ _ _ _ (show 6 < 8 by omega)]
    split <;> split <;> first | omega | simp
  · rw [if_neg h6]
    by_cases h4 : i = 4
    · subst h4
      rw [if_pos rfl]
      simp only [getLsbD_setField _ _ _ _ (show 4 < 8 by omega)]
      split <;> split <;> first | omega | simp
    · rw [if_neg h4, getLsbD_setField _ _ _ i hi, if_neg (by omega)]

/-- The start write sets START, keeps the rest of `CTRL`, and begins a conversion (20_memory R66, R67). -/
theorem writeStart_eq (s : State) : writeStart s = (s.setCtrl (setField s.ctrl startPos 1#1)).beginConversion := by
  have hc : ctrlAfterWrite s.ctrl (setField (setField s.ctrl startPos 1#1) flagPos 0#1) =
      setField s.ctrl startPos 1#1 := by
    apply BitVec.eq_of_getLsbD_eq
    intro i hi
    rw [getLsbD_ctrlAfterWrite _ _ i hi]
    by_cases h6 : i = 6
    · subst h6
      simp only [startPos, flagPos, getLsbD_setField _ _ _ _ (show 6 < 8 by omega)]; simp
    · by_cases h4 : i = 4
      · subst h4
        simp only [startPos, flagPos, getLsbD_setField _ _ _ _ (show 4 < 8 by omega)]; simp
      · simp only [startPos, flagPos, if_neg h6, if_neg h4]
        rw [getLsbD_setField _ _ _ i hi, if_neg (by omega)]
  simp only [writeStart, writeCtrlField, writeCtrl, regRead, hc]
  split <;> rfl

/-- Clearing the flag by writing 1 clears FLAG and nothing else (20_memory R68). -/
theorem w1cFlag_eq (s : State) : w1cFlag s = s.setCtrl (setField s.ctrl flagPos 0#1) := by
  unfold w1cFlag
  simp only [regRead]
  rw [writeCtrl_eq _ _ (by simp [startPos, flagPos])]
  congr 1
  apply BitVec.eq_of_getLsbD_eq
  intro i hi
  rw [getLsbD_ctrlAfterWrite _ _ i hi, getLsbD_setField _ _ _ i hi]
  by_cases h6 : i = 6
  · subst h6
    simp only [startPos, flagPos, getLsbD_setField _ _ _ _ (show 6 < 8 by omega)]; simp
  · by_cases h4 : i = 4
    · subst h4
      simp only [startPos, flagPos, getLsbD_setField _ _ _ _ (show 4 < 8 by omega)]; simp
    · simp only [startPos, flagPos, if_neg h6, if_neg h4]
      rw [getLsbD_setField _ _ _ i hi, if_neg (by omega), if_neg (by omega)]

/-- What a raised fault answers: the state with the fault recorded. -/
@[simp] theorem raiseFault_eq (f : Fault) (s : State) : raiseFault f s = .next (s.recordFault f) := rfl

/-- What a refusal answers: the state with the reason recorded. -/
@[simp] theorem refuse_eq (r : Refusal) (s : State) : refuse r s = .next (s.recordRefusal r) := rfl

@[simp] theorem notEnabled_eq (s : State) : notEnabled s = .next s := rfl

end Sys2Proof.Machine
end

