-- ==== Sys2Proof/Laws/Meanings.lean ====
section
/-! SUPPORT. What each step of a command does to the state, as one equation each: later proofs cite these and do not unfold
the register accesses. -/

namespace Sys2Proof.Machine

/-- INIT's step: two fields of CTRL, the fields of MODE it names, IDLE (40_init R120). -/
theorem initStep_eq (e : Bool) (s : State) :
    initStep e s =
      ((s.setMode (if e then setField (setField s.mode refPos 0b01#2) alignPos 0#1 else setField s.mode refPos 0b00#2)).setCtrl
        (setField (setField s.ctrl psPos (if e then 0b111#3 else 0b000#3)) enPos (if e then 1#1 else 0#1))).setSeq .idle := by
  have hp : ∀ (v : BitVec 3) (s : State), writeCtrlField psPos v s = s.setCtrl (setField s.ctrl psPos v) :=
    fun v s => writeCtrlField_eq _ v s (by decide) (by decide)
  have he : ∀ (v : BitVec 1) (s : State), writeCtrlField enPos v s = s.setCtrl (setField s.ctrl enPos v) :=
    fun v s => writeCtrlField_eq _ v s (by decide) (by decide)
  cases e <;> simp only [initStep, hp, he, writeModeField_eq] <;> rfl

/-- The four channel bit assignments together replace the channel field by `0 : ARG[2:0]` (41_read_channel R141, R142). -/
theorem chBits_eq (w : Byte) (c : Nibble) :
    setField (setField (setField (setField w 0 (BitVec.ofBool (c.getLsbD 0))) 1 (BitVec.ofBool (c.getLsbD 1))) 2
      (BitVec.ofBool (c.getLsbD 2))) 3 (BitVec.ofBool false) = setField w 0 (channelCode c) := by
  apply BitVec.eq_of_getLsbD_eq
  intro i hi
  simp only [getLsbD_setField _ _ _ i hi, channelCode]
  match i, hi with
  | 0, _ => simp
  | 1, _ => simp
  | 2, _ => simp
  | 3, _ => simp
  | 4, _ => simp
  | 5, _ => simp
  | 6, _ => simp
  | 7, _ => simp

/-- READCH's configure step (41_read_channel R141). -/
theorem configureReadch_eq (c : Nibble) (s : State) :
    configureReadch c s =
      .next ((s.setMode (setField (setField s.mode refPos 0b01#2) chPos (channelCode c))).setSeq .configured) := by
  rw [← chBits_eq]; rfl

/-- READTEMP's configure step (42_read_temperature R181). -/
theorem configureReadtemp_eq (s : State) :
    configureReadtemp s =
      .next ((s.setMode (setField (setField s.mode refPos 0b11#2) chPos 0b1000#4)).setSeq .configured) := rfl

/-- The start step on an enabled ADC (41_read_channel R145). -/
theorem startStep_enabled (s : State) (h : s.en = 1#1) :
    startStep s = .next (((s.setCtrl (setField s.ctrl startPos 1#1)).beginConversion).setSeq .started) := by
  simp [startStep, h, writeStart_eq]

/-- The start step on a disabled ADC (60_exceptions R215). -/
theorem startStep_disabled (s : State) (h : s.en = 0#1) :
    startStep s = .next (s.recordFault (.readDisabled s.cur.op s.cur.arg)) := by
  simp [startStep, h]

/-- The poll step that sees the flag (41_read_channel R146). -/
theorem pollStep_set (s : State) (h : s.flag = 1#1) : pollStep s = .next (s.setSeq .complete) := by
  simp only [State.flag] at h
  simp [pollStep, regRead, h]

/-- The poll step that does not see the flag (41_read_channel R146). -/
theorem pollStep_clear (s : State) (h : s.flag = 0#1) : pollStep s = .next s := by
  simp only [State.flag] at h
  simp [pollStep, regRead, h]

/-- The clear step (41_read_channel R148). -/
theorem clearStep_eq (s : State) : clearStep s = .next ((s.setCtrl (setField s.ctrl flagPos 0#1)).setSeq .cleared) := by
  simp [clearStep, w1cFlag_eq]

/-- The data-read step on a right-aligned pair (41_read_channel R149). -/
theorem dataReadStep_right (s : State) (h : s.align = 0#1) :
    dataReadStep s = .next ((s.setRaw (combine s.datah s.datal)).setSeq .resultRead) := by
  simp [dataReadStep, h, alignRight, regRead]

/-- The data-read step on a left-aligned pair is refused (10_state R27). -/
theorem dataReadStep_left (s : State) (h : s.align ≠ 0#1) : dataReadStep s = .next (s.recordRefusal .leftAligned) := by
  simp [dataReadStep, h, alignRight]

/-- The combine of what the converter wrote is the sample, whatever the insignificant bits (41_read_channel R154). -/
theorem combine_conv (v : Sample) (u : BitVec 6) :
    combine (u ++ v.extractLsb' 8 2) (v.extractLsb' 0 8) = v.setWidth 16 := by
  apply BitVec.eq_of_getLsbD_eq
  intro i hi
  have key : ∀ j : Nat, (0x03#8 : Byte).getLsbD j = decide (j < 2) := by
    intro j
    match j with
    | 0 => rfl
    | 1 => rfl
    | (k + 2) =>
      by_cases hk : k + 2 < 8
      · have : ∀ m : Fin 8, 2 ≤ m.val → (0x03#8 : Byte).getLsbD m.val = false := by decide
        simpa using this ⟨k + 2, hk⟩ (by simp)
      · rw [BitVec.getLsbD_of_ge _ _ (by omega)]; simp
  simp only [combine, BitVec.getLsbD_or, BitVec.getLsbD_shiftLeft, BitVec.getLsbD_setWidth, BitVec.getLsbD_and,
    BitVec.getLsbD_append, BitVec.getLsbD_extractLsb', key, hi, decide_true, Bool.true_and]
  by_cases h8 : i < 8
  · simp [h8]
  · by_cases h10 : i < 10
    · have h1 : i - 8 < 2 := by omega
      have h2 : 8 + (i - 8) = i := by omega
      have h3 : i - 8 < 16 := by omega
      simp [h8, h1, h2, h3]
    · rw [BitVec.getLsbD_of_ge v i (by omega)]
      have h1 : ¬ (i - 8 < 2) := by omega
      simp [h8, h1]

/-- The converter's completion step with a conversion outstanding and a right-aligned pair (41_read_channel R150). -/
theorem convStep_active (v : Sample) (u : BitVec 6) (s : State) (ha : s.convActive = true) (hl : s.align = 0#1) :
    convStep v u s = .next ((s.setCtrl (setField (setField s.ctrl startPos 0#1) flagPos 1#1)).endConversion
      (v.extractLsb' 0 8) (u ++ v.extractLsb' 8 2)) := by
  simp [convStep, ha, hl, alignRight]

/-- The converter's completion step with a left-aligned pair is refused (10_state R27). -/
theorem convStep_left (v : Sample) (u : BitVec 6) (s : State) (ha : s.convActive = true) (hl : s.align ≠ 0#1) :
    convStep v u s = .next (s.recordRefusal .leftAligned) := by
  simp [convStep, ha, hl, alignRight]

/-- The converter has no step while no conversion is outstanding (41_read_channel R150). -/
theorem convStep_inactive (v : Sample) (u : BitVec 6) (s : State) (ha : s.convActive = false) :
    convStep v u s = .next s := by
  simp [convStep, ha]

/-- `TEMP_SCALE` is integer division of the exact thousandths, truncated toward zero (42_read_temperature R183). -/
theorem tempScale_eq_tdiv (v : Sample) : tempScale v = Int.tdiv (782 * v.toNat - 250000) 1000 := by
  unfold tempScale tempGain tempOffset
  have hv := v.isLt
  simp only
  split
  · rename_i h
    obtain ⟨k, hk⟩ := Int.eq_ofNat_of_zero_le h
    rw [show (782 * (v.toNat : Int) - 250000) = (k : Int) by omega, hk]
    simp [Int.tdiv]
  · rename_i h
    obtain ⟨k, hk⟩ := Int.eq_ofNat_of_zero_le (show 0 ≤ -(782 * (v.toNat : Int) + -250000) by omega)
    rw [show (782 * (v.toNat : Int) - 250000) = -(k : Int) by omega, hk, Int.neg_tdiv]
    simp [Int.tdiv]

end Sys2Proof.Machine
end

