-- ==== Sys2Proof/Laws/PerInstr.lean ====
section
/-! SUPPORT. Statements made of every command as syntax, one lemma per constructor. -/

namespace Sys2Proof.Laws.WordFields

/-- The word of a command has its `OP` in bits 7:4 and its `ARG` in bits 3:0 (30_encoding R91, R92). -/
def Statement (i : Instr) : Prop := opField (encode i) = opOf i ∧ argField (encode i) = argOf i

theorem split_append (a b : Nibble) : opField (a ++ b) = a ∧ argField (a ++ b) = b := by
  have hl (i : Nat) : BitVec.getLsbD (a ++ b) i = if i < 4 then b.getLsbD i else a.getLsbD (i - 4) :=
    BitVec.getLsbD_append
  constructor <;> apply BitVec.eq_of_getLsbD_eq <;> intro i hi
  · rw [opField, BitVec.getLsbD_extractLsb']
    simp only [hi, decide_true, Bool.true_and]
    exact (hl (4 + i)).trans (by simp)
  · rw [argField, BitVec.getLsbD_extractLsb']
    simp only [hi, decide_true, Bool.true_and]
    exact (hl (0 + i)).trans (by simp [hi])

theorem init (e : Bool) : Statement (.init e) := split_append _ _

theorem readch (c : Nibble) : Statement (.readch c) := split_append _ _

theorem readtemp : Statement .readtemp := split_append _ _

end Sys2Proof.Laws.WordFields
end

