-- ==== Sys2Proof/Laws/Step.lean ====
section
/-! SUPPORT. Said once: everything an agent's step can do. `Moves e s t` lists the ways in which the step of event `e` leads
from `s` to `t`, with the condition of each; whole-machine facts are proved by cases on it. -/

namespace Sys2Proof.Machine

/-- MODE and CTRL after INIT's step (40_init R120). -/
def afterInit (e : Bool) (s : State) : State :=
  ((s.setMode (if e then setField (setField s.mode refPos 0b01#2) alignPos 0#1 else setField s.mode refPos 0b00#2)).setCtrl
    (setField (setField s.ctrl psPos (if e then 0b111#3 else 0b000#3)) enPos (if e then 1#1 else 0#1))).setSeq .idle

/-- The ways a step of an agent can go (10_state R23; 41_read_channel R150; 20_memory R78; 60_exceptions R210, R219). -/
inductive Moves : Event → State → State → Prop where
  | fault (e : Event) (s : State) (f : Fault) : Moves e s (s.recordFault f)
  | refusal (e : Event) (s : State) (r : Refusal) : Moves e s (s.recordRefusal r)
  /-- nothing changes: a turn of an agent with no step enabled, or a poll that sees FLAG = 0 -/
  | pass (e : Event) (s : State) : Moves e s s
  | readStatus (s : State) : Moves .hostReadStatus s (s.replyHost (.status s.status))
  | readResult (s : State) (h : s.resultValid = true) : Moves .hostReadResult s (s.replyHost (.result s.result))
  | accept (w : Byte) (i : Instr) (s : State) (h : s.seqState = .idle) (hd : decode w = .ok i) (hw : i.WellFormed) :
      Moves (.hostWriteCmd w) s (s.latch (latchOf i))
  | init (s : State) (h : s.seqState = .pending) (ho : s.cur.op = .init) :
      Moves .seq s (afterInit (s.cur.arg.getLsbD 0) s)
  | configureReadch (s : State) (h : s.seqState = .pending) (ho : s.cur.op = .readch) :
      Moves .seq s ((s.setMode (setField (setField s.mode refPos 0b01#2) chPos (channelCode s.cur.arg))).setSeq .configured)
  | configureReadtemp (s : State) (h : s.seqState = .pending) (ho : s.cur.op = .readtemp) :
      Moves .seq s ((s.setMode (setField (setField s.mode refPos 0b11#2) chPos 0b1000#4)).setSeq .configured)
  | start (s : State) (h : s.seqState = .configured) (ho : s.cur.op ≠ .init) (he : s.en = 1#1) :
      Moves .seq s (((s.setCtrl (setField s.ctrl startPos 1#1)).beginConversion).setSeq .started)
  | seen (s : State) (h : s.seqState = .started) (ho : s.cur.op ≠ .init) (hf : s.flag = 1#1) :
      Moves .seq s (s.setSeq .complete)
  | clear (s : State) (h : s.seqState = .complete) (ho : s.cur.op ≠ .init) :
      Moves .seq s ((s.setCtrl (setField s.ctrl flagPos 0#1)).setSeq .cleared)
  | dataRead (s : State) (h : s.seqState = .cleared) (ho : s.cur.op ≠ .init) (ha : s.align = 0#1) :
      Moves .seq s ((s.setRaw (combine s.datah s.datal)).setSeq .resultRead)
  | deliverReadch (s : State) (h : s.seqState = .resultRead) (ho : s.cur.op = .readch) :
      Moves .seq s ((s.publish s.raw).setSeq .idle)
  | deliverReadtemp (s : State) (h : s.seqState = .resultRead) (ho : s.cur.op = .readtemp) :
      Moves .seq s ((s.publish (tempResult (s.raw.extractLsb' 0 10))).setSeq .idle)
  | conv (v : Sample) (u : BitVec 6) (s : State) (h : s.convActive = true) (ha : s.align = 0#1) :
      Moves (.conv v u) s ((s.setCtrl (setField (setField s.ctrl startPos 0#1) flagPos 1#1)).endConversion
        (v.extractLsb' 0 8) (u ++ v.extractLsb' 8 2))

theorem channelCode_channelCode (c : Nibble) : channelCode (channelCode c) = channelCode c := by
  revert c; decide

/-- A word that decodes spells a well-formed command (30_encoding R97). -/
theorem decode_ok_wf (w : Byte) (i : Instr) (h : decode w = .ok i) : i.WellFormed := by
  unfold decode at h
  split at h
  · split at h
    · cases h; rfl
    · cases h
  · split at h
    · split at h
      · rename_i hc; cases h; simp only [Instr.WellFormed, Instr.wf, hc, Bool.not_false]
      · cases h
    · split at h
      · split at h
        · cases h; rfl
        · cases h
      · cases h

theorem startStep_moves (s t : State) (hs : s.seqState = .configured) (ho : s.cur.op ≠ .init)
    (h : startStep s = .next t) : Moves .seq s t := by
  by_cases he : s.en = 0#1
  · rw [startStep_disabled s he] at h; cases h; exact .fault _ _ _
  · have he1 : s.en = 1#1 := by
      revert he; generalize s.en = b; revert b; decide
    rw [startStep_enabled s he1] at h; cases h; exact .start s hs ho he1

theorem pollStep_moves (s t : State) (hs : s.seqState = .started) (ho : s.cur.op ≠ .init)
    (h : pollStep s = .next t) : Moves .seq s t := by
  by_cases hf : s.flag = 1#1
  · rw [pollStep_set s hf] at h; cases h; exact .seen s hs ho hf
  · have hf0 : s.flag = 0#1 := by
      revert hf; generalize s.flag = b; revert b; decide
    rw [pollStep_clear s hf0] at h; cases h; exact .pass _ _

theorem dataReadStep_moves (s t : State) (hs : s.seqState = .cleared) (ho : s.cur.op ≠ .init)
    (h : dataReadStep s = .next t) : Moves .seq s t := by
  by_cases ha : s.align = 0#1
  · rw [dataReadStep_right s ha] at h; cases h; exact .dataRead s hs ho ha
  · rw [dataReadStep_left s ha] at h; cases h; exact .refusal _ _ _

/-- SEQ's turn is one of the moves of 10_state R23. -/
theorem seqTurn_moves (s t : State) (hf : s.fault = none) (hr : s.refused = []) (h : seqTurn s = .next t) :
    Moves .seq s t := by
  unfold seqTurn at h
  split at h
  · rename_i hb
    unfold CmdLatch.instr at h
    cases ho : s.cur.op <;> simp only [ho] at h
    · simp only [exec, execInit, guarded_live s _ hf hr] at h
      cases hs : s.seqState <;> simp only [hs] at h
      · simp [State.busy, hs] at hb
      · rw [initStep_eq] at h; cases h; exact .init s hs ho
      all_goals (cases h; exact .pass _ _)
    · have hn : s.cur.op ≠ .init := by simp [ho]
      simp only [exec, execReadch, guarded_live s _ hf hr] at h
      cases hs : s.seqState <;> simp only [hs] at h
      · simp [State.busy, hs] at hb
      · rw [configureReadch_eq, channelCode_channelCode] at h; cases h; exact .configureReadch s hs ho
      · exact startStep_moves s t hs hn h
      · exact pollStep_moves s t hs hn h
      · rw [clearStep_eq] at h; cases h; exact .clear s hs hn
      · exact dataReadStep_moves s t hs hn h
      · cases h; exact .deliverReadch s hs ho
    · have hn : s.cur.op ≠ .init := by simp [ho]
      simp only [exec, execReadtemp, guarded_live s _ hf hr] at h
      cases hs : s.seqState <;> simp only [hs] at h
      · simp [State.busy, hs] at hb
      · rw [configureReadtemp_eq] at h; cases h; exact .configureReadtemp s hs ho
      · exact startStep_moves s t hs hn h
      · exact pollStep_moves s t hs hn h
      · rw [clearStep_eq] at h; cases h; exact .clear s hs hn
      · exact dataReadStep_moves s t hs hn h
      · cases h; exact .deliverReadtemp s hs ho
  · cases h; exact .pass _ _

/-- A well-formed command is accepted at IDLE (30_encoding R104). -/
theorem exec_idle (i : Instr) (s : State) (hf : s.fault = none) (hr : s.refused = []) (hs : s.seqState = .idle)
    (hw : i.WellFormed) : exec i s = .next (s.latch (latchOf i)) := by
  cases i with
  | init e => simp [exec, execInit, guarded_live s _ hf hr, hs, accept]
  | readch c =>
    have hw' : (Instr.readch c).wf = true := hw
    simp [exec, execReadch, guarded_live s _ hf hr, hs, accept, hw']
  | readtemp => simp [exec, execReadtemp, guarded_live s _ hf hr, hs, accept]

/-- HOST's write of a command word (30_encoding R104). -/
theorem hostWrite_moves (w : Byte) (s t : State) (hf : s.fault = none) (hr : s.refused = []) (h : hostWrite w s = .next t) :
    Moves (.hostWriteCmd w) s t := by
  unfold hostWrite at h
  split at h
  · cases h; exact .fault _ _ _
  · rename_i hb
    have hs : s.seqState = .idle := by
      cases hq : s.seqState <;> simp_all [State.busy]
    split at h
    · cases h; exact .fault _ _ _
    · rename_i i hd
      have hw := decode_ok_wf w i hd
      rw [exec_idle i s hf hr hs hw] at h
      cases h; exact .accept w i s hs hd hw

/-- Everything an agent's step can do: if it answers a next state, nothing was recorded before and it is one of the moves. -/
theorem perform_moves (e : Event) (s t : State) (h : perform e s = .next t) :
    s.fault = none ∧ s.refused = [] ∧ Moves e s t := by
  obtain ⟨hf, hr, h⟩ := guarded_next s t _ h
  refine ⟨hf, hr, ?_⟩
  cases e with
  | hostWriteCmd w => exact hostWrite_moves w s t hf hr h
  | hostReadStatus => cases h; exact .readStatus s
  | hostReadResult =>
    simp only [hostReadResult] at h
    split at h
    · rename_i hv; cases h; exact .readResult s hv
    · cases h; exact .fault _ _ _
  | hostReadCmd => cases h; exact .refusal _ _ _
  | hostRegister r k => cases h; exact .refusal _ _ _
  | seq => exact seqTurn_moves s t hf hr h
  | conv v u =>
    replace h : convStep v u s = .next t := h
    cases hc : s.convActive with
    | false => rw [convStep_inactive v u s hc] at h; cases h; exact .pass _ _
    | true =>
      by_cases ha : s.align = 0#1
      · rw [convStep_active v u s hc ha] at h; cases h; exact .conv v u s hc ha
      · rw [convStep_left v u s hc ha] at h; cases h; exact .refusal _ _ _
  | foreign r k =>
    simp only [foreignAccess] at h
    split at h
    · cases h; exact .fault _ _ _
    · cases h; exact .refusal _ _ _

/-- Taking an event changes neither the recorded fault nor the recorded refusals, so a step's next state comes from a
state with neither, by a move of the event whose turn it was. -/
theorem step_moves (s t : State) (h : step s = .next t) :
    s.fault = none ∧ s.refused = [] ∧ Moves s.nextEvent s.takeEvent t := by
  obtain ⟨hf, hr, hm⟩ := perform_moves _ _ _ h
  exact ⟨by simpa using hf, by simpa using hr, hm⟩

end Sys2Proof.Machine
end

