-- ==== Sys2Proof/Laws/Run.lean ====
section
/-! SUPPORT. Steps and runs, one event at a time: the step of a given event, the turn of SEQ, and the first step of a run. -/

namespace Sys2Proof.Machine

open Sys2Proof.Safety

/-- A step takes the agenda's first event and performs it. -/
theorem step_cons (s : State) (e : Event) (rest : List Event) (h : s.agenda = e :: rest) :
    step s = perform e { s with agenda := rest } := by
  rw [step, State.nextEvent_cons s e rest h, State.takeEvent_cons s e rest h]

/-- An event's step where nothing is recorded. -/
theorem perform_live (e : Event) (s : State) (h : Live s) :
    perform e s = match e with
      | .hostWriteCmd w => hostWrite w s
      | .hostReadStatus => hostReadStatus s
      | .hostReadResult => hostReadResult s
      | .hostReadCmd => refuse .cmdRead s
      | .hostRegister _ _ => refuse .hostRegister s
      | .seq => seqTurn s
      | .conv sample high => convStep sample high s
      | .foreign reg kind => foreignAccess reg kind s :=
  guarded_live s _ h.1 h.2

/-- SEQ's turn while a command is in progress runs the command in `CUR` (10_state R23). -/
theorem perform_seq_busy (s : State) (h : Live s) (hs : s.seqState ≠ .idle) : perform .seq s = exec s.cur.instr s := by
  rw [perform_live _ _ h]
  simp [seqTurn, State.busy, hs]

/-- The steps READCH and READTEMP share (41_read_channel R144). -/
theorem exec_read_shared (s : State) (i : Instr) (hi : IsRead i) (h : Live s) :
    (s.seqState = .configured → exec i s = startStep s) ∧ (s.seqState = .started → exec i s = pollStep s) ∧
    (s.seqState = .complete → exec i s = clearStep s) ∧ (s.seqState = .cleared → exec i s = dataReadStep s) := by
  rcases hi with ⟨c, rfl⟩ | rfl <;> refine ⟨?_, ?_, ?_, ?_⟩ <;> intro hs <;>
    simp [exec, execReadch, execReadtemp, guarded_live s _ h.1 h.2, hs]

/-- INIT at PENDING performs its one step (40_init R120). -/
theorem exec_init_pending (s : State) (e : Bool) (h : Live s) (hs : s.seqState = .pending) :
    exec (.init e) s = .next (initStep e s) := by
  simp [exec, execInit, guarded_live s _ h.1 h.2, hs]

/-- READCH at PENDING configures (41_read_channel R141). -/
theorem exec_readch_pending (s : State) (c : Nibble) (h : Live s) (hs : s.seqState = .pending) :
    exec (.readch c) s = configureReadch c s := by
  simp [exec, execReadch, guarded_live s _ h.1 h.2, hs]

/-- READCH at RESULT_READ delivers (41_read_channel R153). -/
theorem exec_readch_resultRead (s : State) (c : Nibble) (h : Live s) (hs : s.seqState = .resultRead) :
    exec (.readch c) s = deliverReadch s := by
  simp [exec, execReadch, guarded_live s _ h.1 h.2, hs]

/-- READTEMP at PENDING configures (42_read_temperature R181). -/
theorem exec_readtemp_pending (s : State) (h : Live s) (hs : s.seqState = .pending) :
    exec .readtemp s = configureReadtemp s := by
  simp [exec, execReadtemp, guarded_live s _ h.1 h.2, hs]

/-- READTEMP at RESULT_READ scales and delivers (42_read_temperature R188). -/
theorem exec_readtemp_resultRead (s : State) (h : Live s) (hs : s.seqState = .resultRead) :
    exec .readtemp s = deliverReadtemp s := by
  simp [exec, execReadtemp, guarded_live s _ h.1 h.2, hs]

/-- A run whose first step answers a next state goes on from that state. -/
theorem run_succ (n : Nat) (s t : State) (h : step s = .next t) : core.run (n + 1) s = core.run n t := by
  have hs : core.step s = .next t := h
  simp only [Host.Core.run, hs]

/-- The first event of a run's agenda. -/
theorem run_cons (n : Nat) (s t : State) (e : Event) (rest : List Event) (ha : s.agenda = e :: rest)
    (hp : perform e { s with agenda := rest } = .next t) : core.run (n + 1) s = core.run n t :=
  run_succ n s t (by rw [step_cons s e rest ha, hp])

/-- The command in the latch is the command that was accepted (30_encoding R104; 10_state R22). -/
theorem latchOf_instr (i : Instr) (h : i.WellFormed) : (latchOf i).instr = i := by
  rcases i with e | c | _
  · revert e; decide
  · revert c; decide
  · rfl

end Sys2Proof.Machine
end

