-- ==== Sys2Proof/Tests/Slice0.lean ====
section
/-! SUPPORT. Tests of the model against the spec's own vectors (95_test_vectors), and a witness for the hypotheses of each
statement. -/

namespace Sys2Proof.Tests

open Sys2Proof.Machine Sys2Proof.Safety

/-! Helpers. -/

def nextOf : Answer → Option State
  | .next s => some s
  | .fault _ => none
  | .refused _ => none

/-- After `INIT 1` (P1): MODE 0x40, CTRL 0x87. -/
def enabled : State := { State.reset with mode := 0x40#8, ctrl := 0x87#8 }

/-- INIT with operand `e` at PENDING. -/
def pendingInit (e : Bool) : State := { enabled with seqState := .pending, cur := latchOf (.init e) }

/-- A read command at `q`, its MODE configured for READCH 3. -/
def reading (q : SeqState) : State :=
  { enabled with mode := 0x43#8, seqState := q, cur := latchOf (.readch 3#4) }

/-- READCH 3 with the conversion outstanding (R156: CTRL 0xC7). -/
def converting : State := { reading .started with ctrl := 0xC7#8, convActive := true }

/-- READCH 3 with the conversion complete (R156: CTRL 0x97, DATAH 0x02, DATAL 0xFF). -/
def converted : State :=
  { reading .started with ctrl := 0x97#8, dataValid := true, datah := 0x02#8, datal := 0xFF#8 }

/-- READCH 3 with the data pair read. -/
def dataRead : State :=
  { reading .resultRead with dataValid := true, datah := 0x02#8, datal := 0xFF#8, raw := 0x02FF#16 }

/-! Well-formedness: the one check, refused. -/

theorem test_wf_channel_8_refused : ¬ (Instr.readch 8#4).WellFormed := by decide
theorem test_wf_channel_7_admitted : (Instr.readch 7#4).WellFormed := by decide

/-! Words from 30_encoding R92 and 95_test_vectors section 2. -/

theorem test_decode_init0 : decode 0b00010000#8 = .ok (.init false) := rfl
theorem test_decode_init1 : decode 0b00010001#8 = .ok (.init true) := rfl
theorem test_decode_init_reserved : decode 0b00010010#8 = .error .reservedOperand := rfl
theorem test_decode_readch3 : decode 0b00100011#8 = .ok (.readch 3#4) := rfl
theorem test_decode_readch_range : decode 0b00101000#8 = .error .channelRange := rfl
theorem test_decode_readtemp : decode 0b00110000#8 = .ok .readtemp := rfl
theorem test_decode_readtemp_reserved : decode 0b00110001#8 = .error .reservedOperand := rfl
theorem test_decode_zero : decode 0b00000000#8 = .error .illegalCmd := rfl
theorem test_encode_readch7 : encode (.readch 7#4) = 0x27#8 := by decide
theorem test_decodeTableWord_readch : decodeTableWord 8 0x20 = some (.readch 0#4) := rfl

/-! The commands (95_test_vectors sections 3 to 6). -/

/-- V-IN7: INIT 1 at MODE 0xC8, CTRL 0x87 leaves 0x48, 0x87. -/
theorem test_init1_after_readtemp :
    (nextOf (exec (.init true) { pendingInit true with mode := 0xC8#8 })).map (fun t => (t.mode, t.ctrl, t.seqState)) =
      some (0x48#8, 0x87#8, .idle) := by decide

/-- V-IN5: INIT 0 at 0x43, 0x87 leaves 0x03, 0x00. -/
theorem test_init0_after_readch :
    (nextOf (exec (.init false) { pendingInit false with mode := 0x43#8 })).map (fun t => (t.mode, t.ctrl)) =
      some (0x03#8, 0x00#8) := by decide

/-- V-RC9: READCH 2 at MODE 0xC8 configures 0x42. -/
theorem test_readch_after_readtemp :
    (nextOf (exec (.readch 2#4) { reading .pending with mode := 0xC8#8 })).map (·.mode) = some 0x42#8 := by decide

/-- V-CY4: the start step of READCH 1 on a disabled ADC raises F_READ_DISABLED(READCH, 0001). -/
theorem test_readch_disabled :
    (nextOf (exec (.readch 1#4) { reading .configured with ctrl := 0x00#8, cur := latchOf (.readch 1#4) })).map
      (fun t => (t.fault, t.ctrl)) = some (some (.readDisabled .readch 1#4), 0x00#8) := by decide

/-- V-RT2: READTEMP at MODE 0x47 configures 0xC8. -/
theorem test_readtemp_configure :
    (nextOf (exec .readtemp { reading .pending with mode := 0x47#8 })).map (·.mode) = some 0xC8#8 := by decide

/-- V-TS1: sample 0 leaves RESULT 0xFF06. -/
theorem test_readtemp_zero :
    (nextOf (exec .readtemp { reading .resultRead with raw := 0#16 })).map (·.result) = some 0xFF06#16 := by decide

/-- R156: the start step leaves CTRL 0xC7. -/
theorem test_start_ctrl : (nextOf (exec (.readch 3#4) (reading .configured))).map (fun t => (t.ctrl, t.convActive)) =
    some (0xC7#8, true) := by decide

/-- R156: the completion with s = 767, u = 0 leaves CTRL 0x97, DATAH 0x02, DATAL 0xFF. -/
theorem test_conv_767 : (nextOf (perform (.conv 767#10 0#6) converting)).map (fun t => (t.ctrl, t.datah, t.datal)) =
    some (0x97#8, 0x02#8, 0xFF#8) := by decide

/-- R156: the clear step leaves CTRL 0x87. -/
theorem test_clear_ctrl :
    (nextOf (exec (.readch 3#4) { converted with seqState := .complete })).map (·.ctrl) = some 0x87#8 := by decide

/-- V-CB6: DATAH 0xFE, DATAL 0x01 combine to 0x0201. -/
theorem test_combine_ignores_upper_bits : combine 0xFE#8 0x01#8 = 0x0201#16 := by decide

/-- V-TS2, V-TS6, V-TS12, V-TS15. -/
theorem test_temp_scale : tempScale 1#10 = -249 ∧ tempScale 319#10 = 0 ∧ tempScale 500#10 = 141 ∧ tempScale 1023#10 = 549 := by
  decide

/-- Section 5.5 of the vectors: v = 500 gives the signed byte −115. -/
theorem test_signed_byte : signedByte (tempResult 500#10) = -115 := by decide

/-- V-DC14: any word while busy raises F_CMD_WHILE_BUSY first. -/
theorem test_busy_first : (nextOf (perform (.hostWriteCmd 0xFF#8) (reading .pending))).map (·.fault) =
    some (some (.cmdWhileBusy 0xFF#8)) := by decide

/-- V-CY7: FOREIGN reads DATAL while busy. -/
theorem test_foreign_busy : (nextOf (perform (.foreign .datal .read) converting)).map (·.fault) =
    some (some (.foreignAccess .datal .read)) := by decide

/-- The word placed for the next step is the command that step accepts. -/
theorem test_fetch : (nextOf (step (State.reset.withFetchWord 8 0x23))).map (fun t => (t.seqState, t.cur)) =
    some (.pending, { op := .readch, arg := 3#4 }) := by decide

/-! Witnesses: for each statement with hypotheses, values that meet them together; for one with several clauses, values for
each clause at its boundary. -/

theorem witness_DecodeEncodeAgree :
    (Instr.readch 7#4).WellFormed ∧ decode 0x27#8 = .ok (.readch 7#4) ∧ ¬ (Instr.readch 8#4).WellFormed :=
  ⟨by decide, rfl, by decide⟩

theorem witness_EveryWordIsLegalOrFaults :
    Live enabled ∧ enabled.seqState = .idle ∧ (0x27#8).toNat / 16 = 2 ∧ (0x0F#8).toNat / 16 = 0 ∧ (0x40#8).toNat / 16 = 4 ∧
      (0x12 ≤ (0x12#8).toNat ∧ (0x12#8).toNat ≤ 0x1F) ∧ (0x31 ≤ (0x3F#8).toNat ∧ (0x3F#8).toNat ≤ 0x3F) ∧
      (0x28 ≤ (0x2F#8).toNat ∧ (0x2F#8).toNat ≤ 0x2F) := by decide

theorem witness_StepRunsTheDecodedCommand :
    Live { enabled with agenda := [.hostWriteCmd 0x23#8] } ∧ decode 0x23#8 = .ok (.readch 3#4) ∧
      Live { reading .pending with agenda := [.seq] } ∧ (reading .pending).seqState ≠ .idle :=
  ⟨by decide, rfl, by decide, by decide⟩

theorem witness_HostWriteIsCheckedThenLatched :
    Live enabled ∧ enabled.seqState = .idle ∧ decode 0x23#8 = .ok (.readch 3#4) ∧ decode 0x24#8 ≠ .error .illegalCmd ∧
      decode 0x40#8 = .error .illegalCmd ∧ Live converting ∧ converting.seqState ≠ .idle ∧
      ({ enabled with fault := some .resultUnavailable } : State).fault = some .resultUnavailable :=
  ⟨by decide, rfl, rfl, by simp [decode, opField, argField], rfl, by decide, by decide, rfl⟩

theorem witness_AcceptedCommandIsTheOnePerformed :
    Live enabled ∧ enabled.seqState = .idle ∧ (Instr.readch 7#4).WellFormed ∧ (Instr.init true).WellFormed ∧
      Instr.readtemp.WellFormed := by decide

theorem witness_ChannelOutOfRangeFaults : Live enabled ∧ enabled.seqState = .idle ∧ 8 ≤ (8#4 : Nibble).toNat := by decide

theorem witness_InitWritesExactlyItsFields : Live (pendingInit true) ∧ (pendingInit true).seqState = .pending := by decide

theorem witness_InitRepeatedAndTornDown :
    (pendingInit true).seqState = .pending ∧ (nextOf (exec (.init true) (pendingInit true))).isSome ∧
      (nextOf (exec (.init false) (pendingInit false))).isSome := by decide

theorem witness_InitHasNoConversionStep :
    Live converting ∧ converting.seqState ≠ .idle ∧ converting.seqState ≠ .pending := by decide

theorem witness_ConfigureSteps : Live (reading .pending) ∧ (reading .pending).seqState = .pending := by decide

theorem witness_StartStepBeginsConversionOrFaults :
    IsRead (.readch 3#4) ∧ IsRead .readtemp ∧ Live (reading .configured) ∧ (reading .configured).en = 1#1 ∧
      ({ reading .configured with ctrl := 0#8 } : State).en = 0#1 :=
  ⟨.inl ⟨_, rfl⟩, .inr rfl, by decide, by decide, by decide⟩

theorem witness_PollStepWaitsForTheFlag :
    Live converted ∧ converted.seqState = .started ∧ converted.flag = 1#1 ∧ Live converting ∧
      converting.seqState = .started ∧ converting.flag = 0#1 := by decide

theorem witness_ClearStepClearsOnlyTheFlag :
    Live { converted with seqState := .complete } ∧ ({ converted with seqState := .complete } : State).flag = 1#1 := by
  decide

theorem witness_DataReadCombinesThePair :
    Live (reading .cleared) ∧ (reading .cleared).align = 0#1 ∧
      ({ reading .cleared with mode := 0x63#8 } : State).align = 1#1 := by decide

theorem dataRead_inv : BlockInv dataRead := by constructor <;> decide

theorem witness_DeliverSteps : Live dataRead ∧ dataRead.seqState = .resultRead ∧ BlockInv dataRead :=
  ⟨by decide, by decide, dataRead_inv⟩

theorem witness_RegisterSpaceFrame :
    (nextOf (exec (.readch 3#4) (reading .configured))).map (memRead 0x7A) ≠ some (memRead 0x7A (reading .configured)) := by
  decide

theorem witness_InsignificantBitsDoNotMatter :
    0xFE#8 &&& 0x03#8 = converted.datah &&& 0x03#8 ∧
      (nextOf (exec (.readch 3#4) { converted with seqState := .cleared })).isSome := by decide

theorem witness_ConverterCompletesTheConversion :
    Live converting ∧ converting.convActive = true ∧ converting.align = 0#1 ∧ Live enabled ∧
      enabled.convActive = false := by decide

theorem converting_inv : BlockInv converting := by constructor <;> decide

theorem witness_InputSelectionHeldDuringConversion :
    BlockInv converting ∧ converting.convActive = true ∧ (nextOf (perform (.conv 0#10 0#6) converting)).isSome :=
  ⟨converting_inv, by decide, by decide⟩

theorem witness_HostReadsReturnStatusAndResult :
    Live enabled ∧ enabled.resultValid = false ∧ Live { enabled with resultValid := true } := by decide

theorem witness_ForeignAndHostRegisterAccesses :
    Live (reading .started) ∧ (reading .started).seqState ≠ .idle ∧ Live enabled ∧ enabled.seqState = .idle := by decide

/-- R33, R65, R67, R121: no result for a 1 at an unnamed bit, at the data pair, for START with EN = 0, or for EN before REF;
a result for the rest. -/
theorem test_memWrite_without_meaning :
    memWrite 0x7C 0x10#8 enabled = none ∧ memWrite 0x7A 0xA7#8 enabled = none ∧ memWrite 0x7A 0x8F#8 enabled = none ∧
      memWrite 0x78 0x00#8 enabled = none ∧ memWrite 0x7A 0x40#8 State.reset = none ∧
      memWrite 0x7A 0x87#8 State.reset = none ∧
      (memWrite 0x7A 0x87#8 { State.reset with mode := 0x40#8 }).map (·.ctrl) = some 0x87#8 ∧
      (memWrite 0x7A 0xC7#8 enabled).map (·.convActive) = some true ∧
      (memWrite 0x7C 0xC8#8 enabled).map (·.mode) = some 0xC8#8 := by decide

theorem witness_FaultsAndRefusals :
    ((nextOf (perform .hostReadResult enabled)).map (·.fault)) = some (some .resultUnavailable) ∧
      ((nextOf (perform .hostReadCmd enabled)).map (·.refused)) = some [.cmdRead] ∧
      ({ enabled with refused := [.cmdRead] } : State).fault = none := by decide

theorem witness_CtrlWritePerBitEffects :
    (ctrlWriteDefined enabled 0xC7#8 = true ∧ enabled.en = 1#1 ∧ enabled.start = 0#1 ∧ (0xC7#8).getLsbD 6 = true) ∧
      (ctrlWriteDefined enabled 0x87#8 = true ∧ (0x87#8).getLsbD 6 = false) ∧
      (ctrlWriteDefined converting 0xC7#8 = true ∧ converting.start = 1#1) := by decide

theorem witness_SequencerTransitionTable :
    ((nextOf (perform .seq (reading .configured))).map (·.seqState)) = some .started ∧
      ((nextOf (perform (.hostWriteCmd 0x30#8) enabled)).map (·.seqState)) = some .pending := by decide

theorem witness_OnlyInitWritesEnableAndPrescaler :
    ((nextOf (perform .seq (pendingInit false))).map (·.en)) = some 0#1 ∧ (pendingInit false).en = 1#1 := by decide

theorem witness_FlagAndStartWriters :
    ((nextOf (perform (.conv 0#10 0#6) converting)).map (fun t => (t.flag, t.start))) = some (1#1, 0#1) ∧
      ((nextOf (perform .seq { converted with seqState := .complete })).map (·.flag)) = some 0#1 ∧
      ((nextOf (perform .seq (reading .configured))).map (·.start)) = some 1#1 := by decide

theorem witness_WritersOfDataRawResultMode :
    ((nextOf (perform (.conv 767#10 0#6) converting)).map (·.datal)) = some 0xFF#8 ∧
      ((nextOf (perform .seq { converted with seqState := .cleared })).map (·.raw)) = some 0x02FF#16 ∧
      ((nextOf (perform .seq dataRead)).map (·.result)) = some 0x02FF#16 ∧
      ((nextOf (perform (.hostWriteCmd 0x10#8) { enabled with resultValid := true })).map (·.resultValid)) = some false := by
  decide

theorem witness_EveryStepKeepsTheInvariant :
    BlockInv { converting with agenda := [.conv 767#10 0#6] } ∧
      (nextOf (step { converting with agenda := [.conv 767#10 0#6] })).isSome :=
  ⟨by constructor <;> decide, by decide⟩

theorem witness_ReadchRun :
    Live { enabled with agenda := readSchedule (BitVec.ofNat 8 (0x20 + (7#4 : Nibble).toNat)) 2 767#10 0#6 ++ [] } ∧
      enabled.en = 1#1 ∧ enabled.align = 0#1 ∧ enabled.flag = 0#1 ∧ enabled.start = 0#1 ∧ (7#4 : Nibble).toNat ≤ 7 := by
  decide

theorem witness_ReadtempRun :
    Live { enabled with agenda := readSchedule 0x30#8 0 500#10 0#6 ++ [] } ∧ enabled.seqState = .idle := by decide

theorem witness_SilentConverterHangs :
    Live converting ∧ converting.seqState = .started ∧ converting.cur.op ≠ .init ∧ converting.flag = 0#1 := by decide

/-- SEQ and CONV in turn. -/
def alternating (n : Nat) : Event := if n % 2 = 0 then .seq else .conv 0#10 0#6

theorem alternating_responds : ConverterResponds alternating :=
  fun n => ⟨2 * n + 1, by omega, 0#10, 0#6, by simp [alternating]⟩

theorem alternating_seq : SequencerRuns alternating := fun n => ⟨2 * n, by omega, by simp [alternating]⟩

theorem alternating_waits : HostWaits alternating := fun n => by
  unfold alternating
  split
  · exact .inl rfl
  · exact .inr (.inr ⟨_, _, rfl⟩)

theorem witness_ReadsEndIfConverterResponds :
    ConverterResponds alternating ∧ SequencerRuns alternating ∧ HostWaits alternating ∧ BlockInv converting ∧
      Live converting ∧ converting.seqState ≠ .idle ∧ converting.cur.op ≠ .init ∧ converting.en = 1#1 :=
  ⟨alternating_responds, alternating_seq, alternating_waits, converting_inv, by decide, by decide, by decide, by decide⟩

end Sys2Proof.Tests
end

section
/-! PROOFS. The field views, and what each step of `Moves` does to the invariant of the block. -/

namespace Sys2Proof.Machine

open Sys2Proof.Safety

/-- Each field view is the field of its register's byte (10_state R25, R30). -/
theorem State.views_eq (s : State) :
    s.ref = getField s.mode refPos 2 ∧ s.align = getField s.mode alignPos 1 ∧ s.ch = getField s.mode chPos 4 ∧
    s.modeUnnamed = getField s.mode modeUnnamedPos 1 ∧ s.en = getField s.ctrl enPos 1 ∧
    s.start = getField s.ctrl startPos 1 ∧ s.flag = getField s.ctrl flagPos 1 ∧ s.ps = getField s.ctrl psPos 3 ∧
    s.ctrlUnnamedHi = getField s.ctrl ctrlUnnamedHiPos 1 ∧ s.ctrlUnnamedLo = getField s.ctrl ctrlUnnamedLoPos 1 :=
  ⟨rfl, rfl, rfl, rfl, rfl, rfl, rfl, rfl, rfl, rfl⟩

/-! Arithmetic of the delivered values. -/

/-- The combine in numbers: DATAH's two significant bits above DATAL (41_read_channel R154). -/
theorem combine_toNat (h l : Byte) : (combine h l).toNat = 256 * (h.toNat % 4) + l.toNat := by
  have hmask : h.toNat &&& 3 = h.toNat % 4 := Nat.and_two_pow_sub_one_eq_mod h.toNat 2
  have hl : l.toNat < 2 ^ 8 := l.isLt
  have hfit : (h.toNat % 4) <<< 8 < 2 ^ 16 := by rw [Nat.shiftLeft_eq]; omega
  simp only [combine, BitVec.toNat_or, BitVec.toNat_shiftLeft, BitVec.toNat_setWidth, BitVec.toNat_and,
    BitVec.toNat_ofNat]
  rw [show 3 % 2 ^ 8 = 3 from rfl, hmask, Nat.mod_eq_of_lt (show h.toNat % 4 < 2 ^ 16 by omega),
    Nat.mod_eq_of_lt hfit, Nat.mod_eq_of_lt (show l.toNat < 2 ^ 16 by omega), ← Nat.shiftLeft_add_eq_or_of_lt hl,
    Nat.shiftLeft_eq]
  omega

/-- The combine is a 10-bit value (41_read_channel R154). -/
theorem combine_toNat_le (h l : Byte) : (combine h l).toNat ≤ 1023 := by
  have hl : l.toNat < 2 ^ 8 := l.isLt
  rw [combine_toNat]
  omega

/-- The temperature stays in −250 to 549 (42_read_temperature R183). -/
theorem tempScale_range (v : Sample) : -250 ≤ tempScale v ∧ tempScale v ≤ 549 := by
  have hv : v.toNat < 2 ^ 10 := v.isLt
  simp only [tempScale, tempGain, tempOffset]
  omega

/-- RESULT holds the temperature as it is: it fits 16-bit two's complement (42_read_temperature R185). -/
theorem tempResult_toInt (v : Sample) : (tempResult v).toInt = tempScale v := by
  obtain ⟨hlo, hhi⟩ := tempScale_range v
  exact BitVec.toInt_ofInt_eq_self (by decide) (by norm_num; omega) (by norm_num; omega)

/-! The latch. -/

/-- Acceptance of a well-formed command latches a command of the opcode map (30_encoding R92 to R95). -/
theorem legalLatch_latchOf (i : Instr) (h : i.WellFormed) : legalLatch (latchOf i) = true := by
  cases i with
  | init e => cases e <;> rfl
  | readch c => exact h
  | readtemp => rfl

/-- The channel code of an operand in range is the operand (41_read_channel R141). -/
theorem channelCode_of_legal (c : Nibble) (h : c.getLsbD 3 = false) : channelCode c = c := by
  revert c; decide

/-- A channel code is at most 7, so READCH never selects the sensor's code or one above it (10_state R28). -/
theorem channelCode_le (c : Nibble) : channelCode c ≤ 0b1000#4 := by
  revert c; decide

end Sys2Proof.Machine

namespace Sys2Proof.Safety

open Sys2Proof.Machine

/-! Updates of what the invariant does not speak of. -/

theorem BlockInv.recordFault {s : State} (h : BlockInv s) (f : Fault) : BlockInv (s.recordFault f) := { h with }

theorem BlockInv.recordRefusal {s : State} (h : BlockInv s) (r : Refusal) : BlockInv (s.recordRefusal r) := { h with }

theorem BlockInv.replyHost {s : State} (h : BlockInv s) (r : HostReply) : BlockInv (s.replyHost r) := { h with }

theorem BlockInv.takeEvent {s : State} (h : BlockInv s) : BlockInv s.takeEvent := by
  unfold State.takeEvent
  split <;> exact { h with }

/-! What the invariant says of a converting block and of a latch. -/

/-- START is 1 only at STARTED (10_state R34, R48). -/
theorem BlockInv.start_eq_zero {s : State} (h : BlockInv s) (hq : s.seqState ≠ .started) : s.start = 0#1 := by
  obtain ⟨-, hcomplete, hread, -⟩ := h.cycle
  have hquiet : s.seqState = .idle ∨ s.seqState = .pending ∨ s.seqState = .configured → s.start = 0#1 :=
    fun hs => (h.quiet hs).left
  cases hs : s.seqState with
  | idle => exact hquiet (.inl hs)
  | pending => exact hquiet (.inr (.inl hs))
  | configured => exact hquiet (.inr (.inr hs))
  | started => exact absurd hs hq
  | complete => obtain ⟨-, hstart, -⟩ := hcomplete hs; exact hstart
  | cleared => obtain ⟨-, hstart, -⟩ := hread (.inl hs); exact hstart
  | resultRead => obtain ⟨-, hstart, -⟩ := hread (.inr hs); exact hstart

/-- A conversion is outstanding only at STARTED (10_state R42, R48). -/
theorem BlockInv.started_of_convActive {s : State} (h : BlockInv s) (ha : s.convActive = true) :
    s.seqState = .started := by
  by_contra hq
  simpa [h.start_eq_zero hq] using h.active.mp ha

/-- A read command in progress stays one while `CUR` and RESULT_VALID are kept (10_state R22, R40). -/
theorem BlockInv.command_of_read {s t : State} (h : BlockInv s) (hq : s.seqState ≠ .idle) (ho : s.cur.op ≠ .init)
    (hcur : t.cur = s.cur) (hvalid : t.resultValid = s.resultValid) : CommandInProgress t := by
  obtain ⟨hlegal, hinvalid, -⟩ := h.command hq
  intro _
  rw [hcur, hvalid]
  exact ⟨hlegal, hinvalid, fun hinit => absurd hinit ho⟩

/-- READCH's latched operand is a channel in range, while the command is in progress (30_encoding R94). -/
theorem BlockInv.channel_of_readch {s : State} (h : BlockInv s) (hq : s.seqState ≠ .idle) (ho : s.cur.op = .readch) :
    channelCode s.cur.arg = s.cur.arg := by
  obtain ⟨hlegal, -, -⟩ := h.command hq
  simp only [legalLatch, ho, Bool.not_eq_true'] at hlegal
  exact channelCode_of_legal _ hlegal

/-- At RESULT_READ, RAW is a 10-bit value (41_read_channel R149, R154). -/
theorem BlockInv.raw_toNat_le {s : State} (h : BlockInv s) (hq : s.seqState = .resultRead) : s.raw.toNat ≤ 1023 := by
  obtain ⟨-, -, -, hraw⟩ := h.cycle
  rw [hraw hq]
  exact combine_toNat_le _ _

/-! The moves that write a register, the latch or SEQ_STATE, one lemma each. -/

/-- Acceptance keeps the invariant (30_encoding R104). -/
theorem BlockInv.latch {s : State} {i : Instr} (h : BlockInv s) (hq : s.seqState = .idle) (hw : i.WellFormed) :
    BlockInv (s.latch (latchOf i)) :=
  { h with
    quiet := fun _ => h.quiet (.inl hq)
    cycle := by simp [CycleFlags]
    command := fun _ => ⟨legalLatch_latchOf i hw, rfl, fun _ => rfl⟩
    configured := by simp
    range := by simp }

/-- INIT's step keeps the invariant (40_init R120, R122). -/
theorem BlockInv.afterInit {s : State} (h : BlockInv s) (hq : s.seqState = .pending) (e : Bool) :
    BlockInv (Machine.afterInit e s) := by
  obtain ⟨-, halign, hch, -⟩ := h.codes
  obtain ⟨hstart, hflag⟩ := h.quiet (.inr (.inl hq))
  simp only [State.views_eq] at halign hch hstart hflag
  exact
  { unnamed := by cases e <;> simpa [Machine.afterInit, UnnamedBitsZero, State.views_eq] using h.unnamed
    codes := by cases e <;> simp [Machine.afterInit, CodesLegal, State.views_eq, halign, hch]
    active := by simpa [Machine.afterInit, ConvActiveIsStart, State.views_eq] using h.active
    quiet := by simp [Machine.afterInit, State.views_eq, hstart, hflag]
    cycle := by simp [Machine.afterInit, CycleFlags]
    command := by simp [Machine.afterInit]
    configured := by simp [Machine.afterInit]
    range := h.range }

/-- A configure step keeps the invariant when it selects what the latched read command names (41_read_channel R141,
42_read_temperature R181). -/
theorem BlockInv.configure {s : State} (h : BlockInv s) (hq : s.seqState = .pending) (ho : s.cur.op ≠ .init)
    {r : BitVec 2} {c : Nibble} (hr : r ≠ 0b10#2) (hc : c ≤ 0b1000#4)
    (hreadch : s.cur.op = .readch → r = 0b01#2 ∧ c = s.cur.arg)
    (hreadtemp : s.cur.op = .readtemp → r = 0b11#2 ∧ c = 0b1000#4) :
    BlockInv ((s.setMode (setField (setField s.mode refPos r) chPos c)).setSeq .configured) := by
  obtain ⟨-, halign, -, hpower⟩ := h.codes
  exact
  { unnamed := by simpa [UnnamedBitsZero, State.views_eq] using h.unnamed
    codes := by simpa [CodesLegal, State.views_eq, hr, hc] using ⟨halign, hpower⟩
    active := h.active
    quiet := fun _ => h.quiet (.inr (.inl hq))
    cycle := by simp [CycleFlags]
    command := h.command_of_read (by simp [hq]) ho rfl rfl
    configured := fun _ _ => by simpa [State.views_eq] using ⟨hreadch, hreadtemp⟩
    range := h.range }

/-- The start step of an enabled ADC keeps the invariant (41_read_channel R145). -/
theorem BlockInv.start {s : State} (h : BlockInv s) (hq : s.seqState = .configured) (ho : s.cur.op ≠ .init)
    (he : s.en = 1#1) :
    BlockInv (((s.setCtrl (setField s.ctrl startPos 1#1)).beginConversion).setSeq .started) := by
  obtain ⟨-, hflag⟩ := h.quiet (.inr (.inr hq))
  have hconf := h.configured (by simp [hq]) (by simp [hq])
  simp only [State.views_eq] at he hflag
  exact
  { unnamed := by simpa [UnnamedBitsZero, State.views_eq] using h.unnamed
    codes := by simpa [CodesLegal, State.views_eq] using h.codes
    active := by simp [ConvActiveIsStart, State.views_eq]
    quiet := by simp
    cycle := by simp [CycleFlags, State.views_eq, he, hflag]
    command := h.command_of_read (by simp [hq]) ho rfl rfl
    configured := fun _ _ => hconf
    range := h.range }

/-- The poll step that sees the flag keeps the invariant (41_read_channel R146). -/
theorem BlockInv.seen {s : State} (h : BlockInv s) (hq : s.seqState = .started) (ho : s.cur.op ≠ .init)
    (hf : s.flag = 1#1) : BlockInv (s.setSeq .complete) := by
  have hconf := h.configured (by simp [hq]) (by simp [hq])
  obtain ⟨hstarted, -, -, -⟩ := h.cycle
  obtain ⟨he, hphase⟩ := hstarted hq
  have hdone : s.start = 0#1 ∧ s.flag = 1#1 ∧ s.dataValid = true :=
    hphase.resolve_left fun ⟨_, hf0, _⟩ => by simp [hf] at hf0
  exact { h with
    quiet := by simp
    cycle := ⟨by simp, fun _ => ⟨he, hdone⟩, by simp, by simp⟩
    command := h.command_of_read (by simp [hq]) ho rfl rfl
    configured := fun _ _ => hconf }

/-- The clear step keeps the invariant (41_read_channel R148). -/
theorem BlockInv.clear {s : State} (h : BlockInv s) (hq : s.seqState = .complete) (ho : s.cur.op ≠ .init) :
    BlockInv ((s.setCtrl (setField s.ctrl flagPos 0#1)).setSeq .cleared) := by
  have hconf := h.configured (by simp [hq]) (by simp [hq])
  obtain ⟨-, hcomplete, -, -⟩ := h.cycle
  obtain ⟨he, hstart, -, hdata⟩ := hcomplete hq
  simp only [State.views_eq] at he hstart
  exact
  { unnamed := by simpa [UnnamedBitsZero, State.views_eq] using h.unnamed
    codes := by simpa [CodesLegal, State.views_eq] using h.codes
    active := by simpa [ConvActiveIsStart, State.views_eq] using h.active
    quiet := by simp
    cycle := by simp [CycleFlags, State.views_eq, he, hstart, hdata]
    command := h.command_of_read (by simp [hq]) ho rfl rfl
    configured := fun _ _ => hconf
    range := h.range }

/-- The data-read step keeps the invariant (41_read_channel R149). -/
theorem BlockInv.dataRead {s : State} (h : BlockInv s) (hq : s.seqState = .cleared) (ho : s.cur.op ≠ .init) :
    BlockInv ((s.setRaw (combine s.datah s.datal)).setSeq .resultRead) := by
  have hconf := h.configured (by simp [hq]) (by simp [hq])
  obtain ⟨-, -, hread, -⟩ := h.cycle
  exact { h with
    quiet := by simp
    cycle := ⟨by simp, by simp, fun _ => hread (.inl hq), fun _ => rfl⟩
    command := h.command_of_read (by simp [hq]) ho rfl rfl
    configured := fun _ _ => hconf }

/-- Delivery of a value in the range of its command keeps the invariant (41_read_channel R153, 42_read_temperature R188). -/
theorem BlockInv.deliver {s : State} (h : BlockInv s) (hq : s.seqState = .resultRead) (v : Word16)
    (hv : (s.cur.op = .readch ∧ v.toNat ≤ 1023) ∨ (s.cur.op = .readtemp ∧ -250 ≤ v.toInt ∧ v.toInt ≤ 549)) :
    BlockInv ((s.publish v).setSeq .idle) := by
  obtain ⟨-, -, hread, -⟩ := h.cycle
  obtain ⟨-, hstart, hflag, -⟩ := hread (.inr hq)
  exact { h with
    quiet := fun _ => ⟨hstart, hflag⟩
    cycle := by simp [CycleFlags]
    command := by simp
    configured := by simp
    range := fun _ => hv }

/-- The converter's completion keeps the invariant: it happens at STARTED (41_read_channel R150). -/
theorem BlockInv.conv {s : State} (h : BlockInv s) (ha : s.convActive = true) (l hi : Byte) :
    BlockInv ((s.setCtrl (setField (setField s.ctrl startPos 0#1) flagPos 1#1)).endConversion l hi) := by
  have hq := h.started_of_convActive ha
  obtain ⟨hstarted, -, -, -⟩ := h.cycle
  obtain ⟨he, -⟩ := hstarted hq
  simp only [State.views_eq] at he
  exact
  { unnamed := by simpa [UnnamedBitsZero, State.views_eq] using h.unnamed
    codes := by simpa [CodesLegal, State.views_eq] using h.codes
    active := by simp [ConvActiveIsStart, State.views_eq]
    quiet := by simp [hq]
    cycle := by simp [CycleFlags, State.views_eq, hq, he]
    command := h.command
    configured := h.configured
    range := h.range }

/-- Every move of every agent keeps the invariant (10_state R23, R33, R42, R48). -/
theorem BlockInv.moves {e : Event} {s t : State} (h : BlockInv s) (hm : Moves e s t) : BlockInv t := by
  cases hm with
  | fault _ _ f => exact h.recordFault f
  | refusal _ _ r => exact h.recordRefusal r
  | pass => exact h
  | readStatus => exact h.replyHost _
  | readResult => exact h.replyHost _
  | accept w i _ hq hd hw => exact h.latch hq hw
  | init _ hq ho => exact h.afterInit hq _
  | configureReadch _ hq ho =>
    have harg := h.channel_of_readch (by simp [hq]) ho
    exact h.configure hq (by simp [ho]) (by decide) (channelCode_le _) (fun _ => ⟨rfl, harg⟩) (by simp [ho])
  | configureReadtemp _ hq ho =>
    exact h.configure hq (by simp [ho]) (by decide) (by decide) (by simp [ho]) (fun _ => ⟨rfl, rfl⟩)
  | start _ hq ho he => exact h.start hq ho he
  | seen _ hq ho hf => exact h.seen hq ho hf
  | clear _ hq ho => exact h.clear hq ho
  | dataRead _ hq ho ha => exact h.dataRead hq ho
  | deliverReadch _ hq ho => exact h.deliver hq _ (.inl ⟨ho, h.raw_toNat_le hq⟩)
  | deliverReadtemp _ hq ho =>
    refine h.deliver hq _ (.inr ⟨ho, ?_⟩)
    rw [tempResult_toInt]
    exact tempScale_range _
  | conv v u _ ha hl => exact h.conv ha _ _

end Sys2Proof.Safety

namespace Sys2Proof.Proofs

open Sys2Proof.Machine Sys2Proof.Safety

/-- Settles O44: a step takes the next event, which the invariant does not speak of, and then makes a move. -/
theorem everyStepKeepsTheInvariant : Obligations.EveryStepKeepsTheInvariant := by
  intro s t h hstep
  obtain ⟨-, -, hm⟩ := step_moves s t hstep
  exact h.takeEvent.moves hm

/-- Settles O43: at reset no command is in progress and every named bit is 0. -/
theorem resetStateMeetsInvariant : Obligations.ResetStateMeetsInvariant := by
  constructor <;> decide

end Sys2Proof.Proofs
end

section
/-! PROOFS. Who writes CTRL, MODE[4] and SEQ_STATE: each statement by cases on `Moves` or on the writers of CTRL. -/

namespace Sys2Proof.Machine

/-- The writers of CTRL and what each writes: INIT's step, the start step, the clear step and the converter (10_state R47,
R245). -/
theorem Moves.ctrl_cases {e : Event} {s t : State} (hm : Moves e s t) :
    t.ctrl = s.ctrl ∨
    ((e = .seq ∧ s.seqState = .pending ∧ s.cur.op = .init) ∧
      ∃ p b, t.ctrl = setField (setField s.ctrl psPos (p : BitVec 3)) enPos (b : BitVec 1)) ∨
    ((e = .seq ∧ s.seqState = .configured ∧ s.en = 1#1) ∧ t.ctrl = setField s.ctrl startPos 1#1) ∨
    ((e = .seq ∧ s.seqState = .complete) ∧ t.ctrl = setField s.ctrl flagPos 0#1) ∨
    ((∃ v u, e = .conv v u) ∧ t.ctrl = setField (setField s.ctrl startPos 0#1) flagPos 1#1) := by
  cases hm with
  | init _ hq ho => exact .inr (.inl ⟨⟨rfl, hq, ho⟩, _, _, rfl⟩)
  | start _ hq _ he => exact .inr (.inr (.inl ⟨⟨rfl, hq, he⟩, rfl⟩))
  | clear _ hq _ => exact .inr (.inr (.inr (.inl ⟨⟨rfl, hq⟩, rfl⟩)))
  | conv v u _ _ _ => exact .inr (.inr (.inr (.inr ⟨⟨v, u, rfl⟩, rfl⟩)))
  | fault | refusal | pass | readStatus | readResult | accept | configureReadch | configureReadtemp | seen | dataRead
  | deliverReadch | deliverReadtemp => exact .inl rfl

/-- No move writes CTRL[5] or CTRL[3] (10_state R33). -/
theorem Moves.ctrlUnnamed_eq {e : Event} {s t : State} (hm : Moves e s t) :
    t.ctrlUnnamedHi = s.ctrlUnnamedHi ∧ t.ctrlUnnamedLo = s.ctrlUnnamedLo := by
  rcases hm.ctrl_cases with hc | ⟨-, p, b, hc⟩ | ⟨-, hc⟩ | ⟨-, hc⟩ | ⟨-, hc⟩ <;> simp [State.views_eq, hc]

/-- No move writes MODE[4]: INIT and the two configure steps write named fields only (10_state R33). -/
theorem Moves.modeUnnamed_eq {e : Event} {s t : State} (hm : Moves e s t) : t.modeUnnamed = s.modeUnnamed := by
  cases hm with
  | init => cases s.cur.arg.getLsbD 0 <;> simp [afterInit, State.views_eq]
  | configureReadch => simp [State.views_eq]
  | configureReadtemp => simp [State.views_eq]
  | fault | refusal | pass | readStatus | readResult | accept | start | seen | clear | dataRead | deliverReadch
  | deliverReadtemp | conv => rfl

end Sys2Proof.Machine

namespace Sys2Proof.Proofs

open Sys2Proof.Machine Sys2Proof.Safety

/-- Settles O36: by cases on the moves, each of which names its row of the table or keeps SEQ_STATE. -/
theorem sequencerTransitionTable : Obligations.SequencerTransitionTable := by
  intro s t e h hne
  obtain ⟨-, -, hm⟩ := perform_moves e s t h
  cases hm with
  | accept w i _ hq hd _ => exact .inl ⟨⟨w, i, rfl, hd⟩, hq, rfl⟩
  | init _ hq ho => exact .inr ⟨rfl, .inl ⟨hq, ho, rfl⟩⟩
  | configureReadch _ hq ho => exact .inr ⟨rfl, .inr (.inl ⟨hq, .inl ho, rfl⟩)⟩
  | configureReadtemp _ hq ho => exact .inr ⟨rfl, .inr (.inl ⟨hq, .inr ho, rfl⟩)⟩
  | start _ hq _ _ => exact .inr ⟨rfl, .inr (.inr (.inl ⟨hq, rfl⟩))⟩
  | seen _ hq _ hf => exact .inr ⟨rfl, .inr (.inr (.inr (.inl ⟨hq, hf, rfl⟩)))⟩
  | clear _ hq _ => exact .inr ⟨rfl, .inr (.inr (.inr (.inr (.inl ⟨hq, rfl⟩))))⟩
  | dataRead _ hq _ _ => exact .inr ⟨rfl, .inr (.inr (.inr (.inr (.inr (.inl ⟨hq, rfl⟩)))))⟩
  | deliverReadch _ hq ho => exact .inr ⟨rfl, .inr (.inr (.inr (.inr (.inr (.inr ⟨hq, .inl ho, rfl⟩)))))⟩
  | deliverReadtemp _ hq ho => exact .inr ⟨rfl, .inr (.inr (.inr (.inr (.inr (.inr ⟨hq, .inr ho, rfl⟩)))))⟩
  | fault | refusal | pass | readStatus | readResult | conv => exact absurd rfl hne

/-- Settles O37: of the writers of CTRL only INIT's step touches EN or PS. -/
theorem onlyInitWritesEnableAndPrescaler : Obligations.OnlyInitWritesEnableAndPrescaler := by
  intro s t e h hne
  obtain ⟨-, -, hm⟩ := perform_moves e s t h
  rcases hm.ctrl_cases with hc | ⟨hinit, -⟩ | ⟨-, hc⟩ | ⟨-, hc⟩ | ⟨-, hc⟩
  · simp [State.views_eq, hc] at hne
  · exact hinit
  all_goals simp [State.views_eq, hc] at hne

/-- Settles O38: of the writers of CTRL only the clear step and the converter touch FLAG. -/
theorem flagSetByConverterClearedBySequencer : Obligations.FlagSetByConverterClearedBySequencer := by
  intro s t e h hne
  obtain ⟨-, -, hm⟩ := perform_moves e s t h
  rcases hm.ctrl_cases with hc | ⟨-, p, b, hc⟩ | ⟨-, hc⟩ | ⟨hclear, hc⟩ | ⟨hconv, hc⟩
  · simp [State.views_eq, hc] at hne
  · simp [State.views_eq, hc] at hne
  · simp [State.views_eq, hc] at hne
  · exact ⟨by simp [State.views_eq, hc], fun _ => hclear⟩
  · exact ⟨fun _ => hconv, by simp [State.views_eq, hc]⟩

/-- Settles O39: of the writers of CTRL only the start step and the converter touch START. -/
theorem startSetBySequencerClearedByConverter : Obligations.StartSetBySequencerClearedByConverter := by
  intro s t e h hne
  obtain ⟨-, -, hm⟩ := perform_moves e s t h
  rcases hm.ctrl_cases with hc | ⟨-, p, b, hc⟩ | ⟨hstart, hc⟩ | ⟨-, hc⟩ | ⟨hconv, hc⟩
  · simp [State.views_eq, hc] at hne
  · simp [State.views_eq, hc] at hne
  · exact ⟨fun _ => hstart, by simp [State.views_eq, hc]⟩
  · simp [State.views_eq, hc] at hne
  · exact ⟨by simp [State.views_eq, hc], fun _ => hconv⟩

/-- Settles O41: every register write of every move is to named fields. -/
theorem unnamedBitsNeverWritten : Obligations.UnnamedBitsNeverWritten := by
  refine ⟨by decide, fun s t e h => ?_⟩
  obtain ⟨-, -, hm⟩ := perform_moves e s t h
  exact ⟨hm.modeUnnamed_eq, hm.ctrlUnnamed_eq⟩

/-- Settles O33: SEQ is not busy at IDLE, and the converter has nothing to complete. -/
theorem disabledAgentsTurnChangesNothing : Obligations.DisabledAgentsTurnChangesNothing := by
  refine fun s hlive => ⟨fun hq => ?_, fun ha v u => ?_⟩
  · rw [perform_live _ _ hlive]
    simp [seqTurn, State.busy, hq]
  · rw [perform_live _ _ hlive]
    exact convStep_inactive v u s ha

/-- Settles O11: beyond PENDING every row of INIT is a turn with no step. -/
theorem initHasNoConversionStep : Obligations.InitHasNoConversionStep := by
  intro s e ⟨hfault, hrefused⟩ hidle hpending
  simp only [exec, execInit, guarded_live s _ hfault hrefused]
  cases hq : s.seqState with
  | idle => exact absurd hq hidle
  | pending => exact absurd hq hpending
  | configured | started | complete | cleared | resultRead => rfl

/-- Settles O42: the reset state is a literal, and its RESULT_VALID is 0. -/
theorem resetValues : Obligations.ResetValues :=
  ⟨rfl, rfl, rfl, rfl, rfl, rfl, rfl, rfl, rfl⟩

end Sys2Proof.Proofs
end

section
/-! PROOFS. DATAH[7:2] as a parameter of the commands' steps (10_state R37): each step commutes with a replacement of DATAH
that keeps the two significant bits. -/

namespace Sys2Proof.Machine

/-- The state with another DATAH. -/
def State.withDatah (s : State) (h : Byte) : State := { s with datah := h }

@[simp] theorem State.withDatah_seqState (s : State) (h : Byte) : (s.withDatah h).seqState = s.seqState := rfl

/-- An answer with another DATAH in its state. -/
def withDatahAnswer (h : Byte) : Answer → Answer
  | .next t => .next (t.withDatah h)
  | .fault f => .fault f
  | .refused r => .refused r

theorem guarded_withDatah (s : State) (h : Byte) (k : Answer) :
    guarded (s.withDatah h) (withDatahAnswer h k) = withDatahAnswer h (guarded s k) := by
  cases hf : s.fault with
  | some f => rw [guarded_fault s k f hf, guarded_fault (s.withDatah h) _ f hf]; rfl
  | none =>
    cases hr : s.refused with
    | nil => rw [guarded_live s k hf hr, guarded_live (s.withDatah h) _ hf hr]
    | cons r rs => simp [guarded, withDatahAnswer, State.withDatah, hf, hr]

theorem initStep_withDatah (e : Bool) (s : State) (h : Byte) :
    initStep e (s.withDatah h) = (initStep e s).withDatah h := by
  rw [initStep_eq, initStep_eq]; rfl

theorem startStep_withDatah (s : State) (h : Byte) :
    startStep (s.withDatah h) = withDatahAnswer h (startStep s) := by
  rcases BitVec.eq_zero_or_eq_one s.en with he | he
  · rw [startStep_disabled s he, startStep_disabled (s.withDatah h) he]; rfl
  · rw [startStep_enabled s he, startStep_enabled (s.withDatah h) he]; rfl

theorem pollStep_withDatah (s : State) (h : Byte) : pollStep (s.withDatah h) = withDatahAnswer h (pollStep s) := by
  rcases BitVec.eq_zero_or_eq_one s.flag with hf | hf
  · rw [pollStep_clear s hf, pollStep_clear (s.withDatah h) hf]; rfl
  · rw [pollStep_set s hf, pollStep_set (s.withDatah h) hf]; rfl

theorem clearStep_withDatah (s : State) (h : Byte) : clearStep (s.withDatah h) = withDatahAnswer h (clearStep s) := by
  rw [clearStep_eq, clearStep_eq]; rfl

/-- The data-read step is the one that reads DATAH, and the combine masks DATAH[7:2] away (41_read_channel R149). -/
theorem dataReadStep_withDatah (s : State) (h : Byte) (hmask : h &&& 0x03#8 = s.datah &&& 0x03#8) :
    dataReadStep (s.withDatah h) = withDatahAnswer h (dataReadStep s) := by
  by_cases ha : s.align = 0#1
  · have hcombine : combine h s.datal = combine s.datah s.datal := by rw [combine, hmask, combine]
    rw [dataReadStep_right s ha, dataReadStep_right (s.withDatah h) ha, ← hcombine]; rfl
  · rw [dataReadStep_left s ha, dataReadStep_left (s.withDatah h) ha]; rfl

theorem configureReadch_withDatah (c : Nibble) (s : State) (h : Byte) :
    configureReadch c (s.withDatah h) = withDatahAnswer h (configureReadch c s) := by
  rw [configureReadch_eq, configureReadch_eq]; rfl

/-- Every step of every command commutes with a replacement of DATAH[7:2]. -/
theorem exec_withDatah (i : Instr) (s : State) (h : Byte) (hmask : h &&& 0x03#8 = s.datah &&& 0x03#8) :
    exec i (s.withDatah h) = withDatahAnswer h (exec i s) := by
  cases i with
  | init e =>
    simp only [exec, execInit, ← guarded_withDatah, State.withDatah_seqState]
    congr 1
    cases s.seqState with
    | pending => exact congrArg _ (initStep_withDatah e s h)
    | idle | configured | started | complete | cleared | resultRead => rfl
  | readch c =>
    simp only [exec, execReadch, ← guarded_withDatah, State.withDatah_seqState]
    congr 1
    cases s.seqState with
    | idle => dsimp only; split <;> rfl
    | pending => exact configureReadch_withDatah c s h
    | configured => exact startStep_withDatah s h
    | started => exact pollStep_withDatah s h
    | complete => exact clearStep_withDatah s h
    | cleared => exact dataReadStep_withDatah s h hmask
    | resultRead => rfl
  | readtemp =>
    simp only [exec, execReadtemp, ← guarded_withDatah, State.withDatah_seqState]
    congr 1
    cases s.seqState with
    | configured => exact startStep_withDatah s h
    | started => exact pollStep_withDatah s h
    | complete => exact clearStep_withDatah s h
    | cleared => exact dataReadStep_withDatah s h hmask
    | idle | pending | resultRead => rfl

end Sys2Proof.Machine

namespace Sys2Proof.Proofs

open Sys2Proof.Machine

/-- Settles O21: the step from the state with other insignificant bits is the step from the state, with those bits. -/
theorem insignificantBitsDoNotMatter : Obligations.InsignificantBitsDoNotMatter := by
  intro s t i h hmask hstep
  have hcommute := exec_withDatah i s h hmask
  rw [hstep] at hcommute
  exact hcommute

end Sys2Proof.Proofs
end

section
/-! PROOFS. The register space on the bus (20_memory R61 to R69): what a bus read names, what a bus write of CTRL does, which
registers a command's step writes, and who writes the rest of the block. -/

namespace Sys2Proof.Machine

open Sys2Proof.Safety

/-! Bus reads. -/

/-- The address table is the inverse of `ADC_REG_ADDR` (20_memory R61). -/
theorem regAt_eq_some_iff (a : Nat) (r : AdcReg) : regAt a = some r ↔ a = adcRegAddr r := by
  constructor
  · intro h
    simp only [regAt] at h
    split_ifs at h with hl hh hc hm <;> cases h <;> assumption
  · rintro rfl
    cases r <;> rfl

/-- A bus read at a register's address reads the register (20_memory R61, R64). -/
@[simp] theorem memRead_adcRegAddr (r : AdcReg) (s : State) : memRead (adcRegAddr r) s = some (regRead r s) := by
  simp [memRead, (regAt_eq_some_iff _ r).mpr rfl]

/-- A bus read has no result exactly where no register stands (20_memory R61). -/
theorem memRead_eq_none_iff (a : Nat) (s : State) : memRead a s = none ↔ ∀ r, a ≠ adcRegAddr r := by
  rw [memRead, Option.map_eq_none_iff, Option.eq_none_iff_forall_ne_some]
  simp only [ne_eq, regAt_eq_some_iff]

/-- Where two states' bus reads differ, the address is that of a register in which the states differ. -/
theorem exists_reg_of_memRead_ne {a : Nat} {s t : State} (h : memRead a t ≠ memRead a s) :
    ∃ r, a = adcRegAddr r ∧ regRead r t ≠ regRead r s := by
  cases hr : regAt a with
  | none => simp [memRead, hr] at h
  | some r => exact ⟨r, (regAt_eq_some_iff a r).mp hr, by simpa [memRead, hr] using h⟩

/-! Bus writes of CTRL. -/

/-- A one-bit field in terms of its bit. -/
theorem getField_one (w : Byte) (p : Nat) : getField w p 1 = BitVec.ofBool (w.getLsbD p) := by
  apply BitVec.eq_of_getLsbD_eq
  intro i hi
  obtain rfl : i = 0 := by omega
  simp [getField]

/-- A bus write of CTRL whose effect the spec gives is the write of 20_memory R67 to R69. -/
theorem memWrite_ctrl (s : State) (new : Byte) (h : ctrlWriteDefined s new = true) :
    memWrite (adcRegAddr .ctrl) new s = some (writeCtrl new s) := by
  simp [memWrite, (regAt_eq_some_iff _ .ctrl).mpr rfl, h]

@[simp] theorem writeCtrl_ctrl (new : Byte) (s : State) : (writeCtrl new s).ctrl = ctrlAfterWrite s.ctrl new := by
  simp only [writeCtrl]
  split <;> rfl

/-- A write of CTRL changes CTRL, CONV_ACTIVE and DATA_VALID at most (20_memory R67). -/
theorem writeCtrl_frame (new : Byte) (s : State) :
    { writeCtrl new s with ctrl := s.ctrl, convActive := s.convActive, dataValid := s.dataValid } = s := by
  simp only [writeCtrl]
  split <;> rfl

/-- A write of CTRL with START rising and EN = 1 begins a conversion (20_memory R67). -/
theorem writeCtrl_of_start_rises (new : Byte) (s : State) (he : s.en = 1#1) (hs : s.start = 0#1)
    (hn : new.getLsbD startPos = true) : writeCtrl new s = (s.setCtrl (ctrlAfterWrite s.ctrl new)).beginConversion := by
  have hone : getField new startPos 1 = 1#1 := by rw [getField_one, hn]; rfl
  have hrise : startsConversion s.ctrl new = true := by
    simp only [State.views_eq] at he hs
    rw [startsConversion, he, hs, hone]; rfl
  simp only [writeCtrl, hrise, if_true]

/-- A write of CTRL with 0 at START, or with START 1 already, begins no conversion (20_memory R67, R69). -/
theorem writeCtrl_of_start_kept (new : Byte) (s : State) (h : new.getLsbD startPos = false ∨ s.start = 1#1) :
    writeCtrl new s = s.setCtrl (ctrlAfterWrite s.ctrl new) := by
  have hkept : startsConversion s.ctrl new = false := by
    simp only [State.views_eq] at h
    rcases h with hn | hs
    · rw [startsConversion, getField_one new, hn]; simp
    · simp [startsConversion, hs]
  simp [writeCtrl, hkept]

/-! Which registers an update of the state keeps. -/

@[simp] theorem regRead_setSeq (r : AdcReg) (s : State) (q : SeqState) : regRead r (s.setSeq q) = regRead r s := by
  cases r <;> rfl
@[simp] theorem regRead_latch (r : AdcReg) (s : State) (k : CmdLatch) : regRead r (s.latch k) = regRead r s := by
  cases r <;> rfl
@[simp] theorem regRead_setRaw (r : AdcReg) (s : State) (v : Word16) : regRead r (s.setRaw v) = regRead r s := by
  cases r <;> rfl
@[simp] theorem regRead_publish (r : AdcReg) (s : State) (v : Word16) : regRead r (s.publish v) = regRead r s := by
  cases r <;> rfl
@[simp] theorem regRead_beginConversion (r : AdcReg) (s : State) : regRead r s.beginConversion = regRead r s := by
  cases r <;> rfl
@[simp] theorem regRead_recordFault (r : AdcReg) (s : State) (f : Fault) : regRead r (s.recordFault f) = regRead r s := by
  cases r <;> rfl
@[simp] theorem regRead_recordRefusal (r : AdcReg) (s : State) (x : Refusal) :
    regRead r (s.recordRefusal x) = regRead r s := by
  cases r <;> rfl

theorem regRead_setMode_of_ne {r : AdcReg} (h : r ≠ .mode) (s : State) (v : Byte) :
    regRead r (s.setMode v) = regRead r s := by
  cases r with
  | mode => exact absurd rfl h
  | datal | datah | ctrl => rfl

theorem regRead_setCtrl_of_ne {r : AdcReg} (h : r ≠ .ctrl) (s : State) (v : Byte) :
    regRead r (s.setCtrl v) = regRead r s := by
  cases r with
  | ctrl => exact absurd rfl h
  | datal | datah | mode => rfl

/-! Which registers a command's step writes. -/

/-- A command's step is taken only where nothing is recorded. -/
theorem live_of_exec_next {i : Instr} {s t : State} (h : exec i s = .next t) : Live s := by
  cases i <;> exact (guarded_next s t _ h).imp_right And.left

/-- At IDLE a command is accepted or its operand is out of range (30_encoding R94, R104). -/
theorem exec_idle_cases {i : Instr} {s t : State} (hs : s.seqState = .idle) (h : exec i s = .next t) :
    t = s.latch (latchOf i) ∨ ∃ f, t = s.recordFault f := by
  obtain ⟨hf, hr⟩ := live_of_exec_next h
  by_cases hw : i.WellFormed
  · rw [exec_idle i s hf hr hs hw] at h
    cases h; exact .inl rfl
  · cases i with
    | init | readtemp => exact absurd rfl hw
    | readch c =>
      simp only [exec, execReadch, guarded_live s _ hf hr, hs, if_neg hw] at h
      cases h; exact .inr ⟨_, rfl⟩

theorem exec_idle_regRead {i : Instr} {s t : State} (hs : s.seqState = .idle) (h : exec i s = .next t) (r : AdcReg) :
    regRead r t = regRead r s := by
  rcases exec_idle_cases hs h with rfl | ⟨f, rfl⟩ <;> simp

theorem startStep_regRead_of_ne {s t : State} (h : startStep s = .next t) {r : AdcReg} (hr : r ≠ .ctrl) :
    regRead r t = regRead r s := by
  rcases BitVec.eq_zero_or_eq_one s.en with he | he
  · rw [startStep_disabled s he] at h; cases h; simp
  · rw [startStep_enabled s he] at h; cases h; simp [regRead_setCtrl_of_ne hr]

theorem pollStep_regRead {s t : State} (h : pollStep s = .next t) (r : AdcReg) : regRead r t = regRead r s := by
  rcases BitVec.eq_zero_or_eq_one s.flag with hf | hf
  · rw [pollStep_clear s hf] at h; cases h; rfl
  · rw [pollStep_set s hf] at h; cases h; simp

theorem clearStep_regRead_of_ne {s t : State} (h : clearStep s = .next t) {r : AdcReg} (hr : r ≠ .ctrl) :
    regRead r t = regRead r s := by
  rw [clearStep_eq] at h; cases h; simp [regRead_setCtrl_of_ne hr]

theorem dataReadStep_regRead {s t : State} (h : dataReadStep s = .next t) (r : AdcReg) :
    regRead r t = regRead r s := by
  by_cases ha : s.align = 0#1
  · rw [dataReadStep_right s ha] at h; cases h; simp
  · rw [dataReadStep_left s ha] at h; cases h; simp

/-- The configure step of either read command writes MODE only (41_read_channel R141, 42_read_temperature R181). -/
theorem exec_read_pending_regRead_of_ne {i : Instr} {s t : State} (hi : IsRead i) (hs : s.seqState = .pending)
    (h : exec i s = .next t) {r : AdcReg} (hr : r ≠ .mode) : regRead r t = regRead r s := by
  have hlive := live_of_exec_next h
  rcases hi with ⟨c, rfl⟩ | rfl
  · rw [exec_readch_pending s c hlive hs, configureReadch_eq] at h; cases h; simp [regRead_setMode_of_ne hr]
  · rw [exec_readtemp_pending s hlive hs, configureReadtemp_eq] at h; cases h; simp [regRead_setMode_of_ne hr]

/-- The final step of either read command writes no register (41_read_channel R153, 42_read_temperature R188). -/
theorem exec_read_resultRead_regRead {i : Instr} {s t : State} (hi : IsRead i) (hs : s.seqState = .resultRead)
    (h : exec i s = .next t) (r : AdcReg) : regRead r t = regRead r s := by
  have hlive := live_of_exec_next h
  rcases hi with ⟨c, rfl⟩ | rfl
  · rw [exec_readch_resultRead s c hlive hs] at h; cases h; simp
  · rw [exec_readtemp_resultRead s hlive hs] at h; cases h; simp

/-- The register a read command's step writes: MODE in the configure step, CTRL in the start and the clear step. -/
theorem exec_read_writes {i : Instr} {s t : State} (hi : IsRead i) (h : exec i s = .next t) {r : AdcReg}
    (hne : regRead r t ≠ regRead r s) :
    (r = .mode ∧ s.seqState = .pending) ∨ (r = .ctrl ∧ (s.seqState = .configured ∨ s.seqState = .complete)) := by
  obtain ⟨hstart, hpoll, hclear, hdata⟩ := exec_read_shared s i hi (live_of_exec_next h)
  cases hs : s.seqState with
  | idle => exact absurd (exec_idle_regRead hs h r) hne
  | pending => exact .inl ⟨not_imp_comm.mp (exec_read_pending_regRead_of_ne hi hs h) hne, rfl⟩
  | configured => exact .inr ⟨not_imp_comm.mp (startStep_regRead_of_ne (hstart hs ▸ h)) hne, .inl rfl⟩
  | started => exact absurd (pollStep_regRead (hpoll hs ▸ h) r) hne
  | complete => exact .inr ⟨not_imp_comm.mp (clearStep_regRead_of_ne (hclear hs ▸ h)) hne, .inr rfl⟩
  | cleared => exact absurd (dataReadStep_regRead (hdata hs ▸ h) r) hne
  | resultRead => exact absurd (exec_read_resultRead_regRead hi hs h r) hne

/-- The registers INIT's step writes: MODE and CTRL, at PENDING (40_init R120). -/
theorem exec_init_writes {e : Bool} {s t : State} (h : exec (.init e) s = .next t) {r : AdcReg}
    (hne : regRead r t ≠ regRead r s) : (r = .mode ∨ r = .ctrl) ∧ s.seqState = .pending := by
  obtain ⟨hf, hrefused⟩ := live_of_exec_next h
  cases hs : s.seqState with
  | idle => exact absurd (exec_idle_regRead hs h r) hne
  | pending =>
    rw [exec_init_pending s e ⟨hf, hrefused⟩ hs, initStep_eq] at h
    cases h
    refine ⟨?_, rfl⟩
    by_contra! hr
    obtain ⟨hmode, hctrl⟩ := hr
    exact hne (by simp [regRead_setMode_of_ne hmode, regRead_setCtrl_of_ne hctrl])
  | configured | started | complete | cleared | resultRead =>
    simp only [exec, execInit, guarded_live s _ hf hrefused, hs] at h
    cases h; exact absurd rfl hne

/-! Who writes MODE, the data pair, RAW, RESULT and RESULT_VALID. -/

/-- MODE is written by SEQ at PENDING only (10_state R46). -/
theorem Moves.mode_eq_or {e : Event} {s t : State} (hm : Moves e s t) :
    t.mode = s.mode ∨ (e = .seq ∧ s.seqState = .pending) := by
  cases hm with
  | init _ hq | configureReadch _ hq | configureReadtemp _ hq => exact .inr ⟨rfl, hq⟩
  | _ => exact .inl rfl

/-- The data pair is written by the completion of an outstanding conversion only (20_memory R65). -/
theorem Moves.data_eq_or {e : Event} {s t : State} (hm : Moves e s t) :
    (t.datal = s.datal ∧ t.datah = s.datah) ∨ (s.convActive = true ∧ ∃ v u, e = .conv v u) := by
  cases hm with
  | conv v u _ ha => exact .inr ⟨ha, v, u, rfl⟩
  | _ => exact .inl ⟨rfl, rfl⟩

/-- RAW is written by SEQ's data-read step only (10_state R49). -/
theorem Moves.raw_eq_or {e : Event} {s t : State} (hm : Moves e s t) :
    t.raw = s.raw ∨ (e = .seq ∧ s.seqState = .cleared) := by
  cases hm with
  | dataRead _ hq => exact .inr ⟨rfl, hq⟩
  | _ => exact .inl rfl

/-- RESULT is written by SEQ's delivery only (10_state R41). -/
theorem Moves.result_eq_or {e : Event} {s t : State} (hm : Moves e s t) :
    t.result = s.result ∨ (e = .seq ∧ s.seqState = .resultRead) := by
  cases hm with
  | deliverReadch _ hq | deliverReadtemp _ hq => exact .inr ⟨rfl, hq⟩
  | _ => exact .inl rfl

/-- RESULT_VALID is set by delivery and cleared by acceptance, and kept otherwise (10_state R41, 30_encoding R104). -/
theorem Moves.resultValid_eq_or {e : Event} {s t : State} (hm : Moves e s t) :
    t.resultValid = s.resultValid ∨ t.resultValid = true ∨ ∃ w, e = .hostWriteCmd w := by
  cases hm with
  | accept w => exact .inr (.inr ⟨w, rfl⟩)
  | deliverReadch | deliverReadtemp => exact .inr (.inl rfl)
  | _ => exact .inl rfl

/-! HOST's port reads. -/

/-- STATUS is BUSY in bit 1 and RESULT_VALID in bit 0 (10_state R40, 20_memory R78). -/
theorem State.status_getLsbD (s : State) :
    s.status.getLsbD 1 = s.busy ∧ s.status.getLsbD 0 = s.resultValid := by
  simp only [State.status, BitVec.getLsbD_append]
  simp

theorem State.busy_iff (s : State) : s.busy = true ↔ s.seqState ≠ .idle := by
  simp [State.busy]

/-- The first fault is recorded in FAULT (60_exceptions R210). -/
theorem State.recordFault_of_none (s : State) (f : Fault) (h : s.fault = none) :
    s.recordFault f = { s with fault := some f } := by
  simp [State.recordFault, h]

end Sys2Proof.Machine

namespace Sys2Proof.Proofs

open Sys2Proof.Machine Sys2Proof.Safety

/-- Settles O20: an address whose byte changed is a register's, and the commands' writes of registers are known. -/
theorem registerSpaceFrame : Obligations.RegisterSpaceFrame := by
  intro s t i a h hne
  obtain ⟨r, rfl, hreg⟩ := exists_reg_of_memRead_ne hne
  by_cases hi : IsRead i
  · rcases exec_read_writes hi h hreg with ⟨rfl, hq⟩ | ⟨rfl, hq⟩
    · exact .inl ⟨rfl, hq⟩
    · exact .inr (.inr ⟨rfl, hi, hq⟩)
  · cases i with
    | readch c => exact absurd (.inl ⟨c, rfl⟩) hi
    | readtemp => exact absurd (.inr rfl) hi
    | init e =>
      obtain ⟨rfl | rfl, hq⟩ := exec_init_writes h hreg
      · exact .inl ⟨rfl, hq⟩
      · exact .inr (.inl ⟨rfl, hq, e, rfl⟩)

/-- Settles O35: the write is defined, so it is `writeCtrl`, whose bits, start and frame are known. -/
theorem ctrlWritePerBitEffects : Obligations.CtrlWritePerBitEffects := by
  intro s new hdefined
  refine ⟨writeCtrl new s, memWrite_ctrl s new hdefined, fun i hi => ?_, fun he hs hn => ?_, fun hkept => ?_,
    writeCtrl_frame new s⟩
  · rw [writeCtrl_ctrl, getLsbD_ctrlAfterWrite _ _ i hi]
    by_cases hstart : i = 6
    · subst hstart; rfl
    · simp only [startPos, flagPos, if_neg hstart]
  · rw [writeCtrl_of_start_rises new s he hs hn]; exact ⟨rfl, rfl⟩
  · rw [writeCtrl_of_start_kept new s hkept]; exact ⟨rfl, rfl⟩

/-- Settles O40: a field that changed was written by the one kind of move that writes it. -/
theorem writersOfDataRawResultMode : Obligations.WritersOfDataRawResultMode := by
  intro s t e h
  obtain ⟨-, -, hm⟩ := perform_moves e s t h
  refine ⟨fun hne => ?_, hm.raw_eq_or.resolve_left, hm.result_eq_or.resolve_left, hm.mode_eq_or.resolve_left,
    fun hset hclear => ?_⟩
  · exact hm.data_eq_or.resolve_left (not_and_or.mpr hne)
  · simpa [hset, hclear] using hm.resultValid_eq_or

/-- Settles O29: the two port reads, with the fault where RESULT is not valid. -/
theorem hostReadsReturnStatusAndResult : Obligations.HostReadsReturnStatusAndResult := by
  intro s hlive
  obtain ⟨hbusy, hvalid⟩ := s.status_getLsbD
  refine ⟨⟨s.status, ?_, ?_, ?_⟩, fun hv => ?_, fun hv => ?_⟩
  · rw [perform_live _ _ hlive]; rfl
  · rw [hbusy, s.busy_iff]
  · rw [hvalid]
  · rw [perform_live _ _ hlive]
    simp only [hostReadResult, if_pos hv]; rfl
  · rw [perform_live _ _ hlive]
    simp [hostReadResult, hv, s.recordFault_of_none _ hlive.1]

/-- Settles O34: the four addresses are the registers', and no other address is one. -/
theorem memReadNamesTheRegisters : Obligations.MemReadNamesTheRegisters := by
  intro s
  refine ⟨memRead_adcRegAddr .datal s, memRead_adcRegAddr .datah s, memRead_adcRegAddr .ctrl s,
    memRead_adcRegAddr .mode s, fun a hdatal hdatah hctrl hmode => ?_⟩
  rw [memRead_eq_none_iff]
  rintro (_ | _ | _ | _) <;> assumption

end Sys2Proof.Proofs
end

section
/-! PROOFS. The command word: the decoder and the encoder as inverses, the decoder's faults in numbers, and what HOST's write
of a word does at each of its checks (30_encoding R90 to R104). -/

namespace Sys2Proof

/-! The fields of a word. -/

theorem opField_append_argField (w : Byte) : opField w ++ argField w = w :=
  (BitVec.extractLsb'_append_extractLsb'_eq_extractLsb' rfl).trans BitVec.extractLsb'_eq_self

@[simp] theorem opField_encode (i : Instr) : opField (encode i) = opOf i :=
  (Laws.WordFields.split_append (opOf i) (argOf i)).1

@[simp] theorem argField_encode (i : Instr) : argField (encode i) = argOf i :=
  (Laws.WordFields.split_append (opOf i) (argOf i)).2

theorem encode_eq_iff (i : Instr) (w : Byte) : encode i = w ↔ opOf i = opField w ∧ argOf i = argField w := by
  constructor
  · rintro rfl
    exact ⟨(opField_encode i).symm, (argField_encode i).symm⟩
  · rintro ⟨hop, harg⟩
    rw [encode, hop, harg, opField_append_argField]

theorem opField_eq_iff (w : Byte) (op : Nibble) : opField w = op ↔ w.toNat / 16 = op.toNat := by
  have hw : w.toNat < 256 := w.isLt
  rw [← BitVec.toNat_inj, opField, BitVec.extractLsb'_toNat, Nat.shiftRight_eq_div_pow]
  omega

theorem argField_toNat (w : Byte) : (argField w).toNat = w.toNat % 16 := by
  rw [argField, BitVec.extractLsb'_toNat]
  rfl

/-- An `ARG` nibble is `000e` when it is 0 or 1 (30_encoding R93). -/
theorem extractLsb'_one_three_eq_zero_iff (a : Nibble) : a.extractLsb' 1 3 = 0#3 ↔ a.toNat < 2 := by
  revert a; decide

/-- `ARG[3] = 0` when the nibble is a channel 0 to 7 (30_encoding R94). -/
theorem getLsbD_three_eq_false_iff (a : Nibble) : a.getLsbD 3 = false ↔ a.toNat < 8 := by
  revert a; decide

theorem wf_readch_iff (c : Nibble) : (Instr.readch c).WellFormed ↔ c.toNat < 8 := by
  rw [← getLsbD_three_eq_false_iff]
  simp only [Instr.WellFormed, Instr.wf, Bool.not_eq_true']

/-! Decoding. -/

/-- INIT's operand is bit 0 of an `ARG` nibble `000e` (30_encoding R93). -/
theorem argOf_init_getLsbD_zero (a : Nibble) (h : a.extractLsb' 1 3 = 0#3) : argOf (.init (a.getLsbD 0)) = a := by
  revert a; decide

theorem decode_encode (i : Instr) (h : i.WellFormed) : decode (encode i) = .ok i := by
  cases i with
  | init e => cases e <;> rfl
  | readch c =>
    simp only [decode, opField_encode, argField_encode, argOf, getLsbD_three_eq_false_iff, (wf_readch_iff c).mp h]
    rfl
  | readtemp => rfl

theorem encode_of_decode_ok (w : Byte) (i : Instr) (h : decode w = .ok i) : encode i = w := by
  rw [encode_eq_iff]
  unfold decode at h
  split at h
  next hop =>
    split at h
    next harg => cases h; exact ⟨hop.symm, argOf_init_getLsbD_zero _ harg⟩
    next => cases h
  next =>
    split at h
    next hop =>
      split at h
      next => cases h; exact ⟨hop.symm, rfl⟩
      next => cases h
    next =>
      split at h
      next hop =>
        split at h
        next harg => cases h; exact ⟨hop.symm, harg.symm⟩
        next => cases h
      next => cases h

/-- Decoding is the inverse of encoding on the well-formed commands (30_encoding R92, R97). -/
theorem decode_eq_ok_iff (w : Byte) (i : Instr) : decode w = .ok i ↔ i.WellFormed ∧ encode i = w := by
  constructor
  · exact fun h => ⟨Machine.decode_ok_wf w i h, encode_of_decode_ok w i h⟩
  · rintro ⟨hw, rfl⟩
    exact decode_encode i hw

theorem decode_illegalCmd (w : Byte) (h1 : w.toNat / 16 ≠ 1) (h2 : w.toNat / 16 ≠ 2) (h3 : w.toNat / 16 ≠ 3) :
    decode w = .error .illegalCmd := by
  simp [decode, opField_eq_iff, h1, h2, h3]

/-- The reserved operands of INIT (30_encoding R93). -/
theorem decode_init_reserved (w : Byte) (h : 0x12 ≤ w.toNat ∧ w.toNat ≤ 0x1F) : decode w = .error .reservedOperand := by
  have hop : w.toNat / 16 = 1 := by omega
  have harg : ¬ w.toNat % 16 < 2 := by omega
  simp [decode, opField_eq_iff, hop, extractLsb'_one_three_eq_zero_iff, argField_toNat, harg]

/-- The reserved operands of READTEMP (30_encoding R95). -/
theorem decode_readtemp_reserved (w : Byte) (h : 0x31 ≤ w.toNat ∧ w.toNat ≤ 0x3F) :
    decode w = .error .reservedOperand := by
  have hop : w.toNat / 16 = 3 := by omega
  have harg : argField w ≠ 0#4 := by
    rw [ne_eq, ← BitVec.toNat_inj, argField_toNat, BitVec.toNat_ofNat]
    omega
  simp [decode, opField_eq_iff, hop, harg]

/-- The channels 8 to 15 (30_encoding R94). -/
theorem decode_channelRange (w : Byte) (h : 0x28 ≤ w.toNat ∧ w.toNat ≤ 0x2F) : decode w = .error .channelRange := by
  have hop : w.toNat / 16 = 2 := by omega
  have harg : ¬ w.toNat % 16 < 8 := by omega
  simp only [decode, opField_eq_iff, hop, getLsbD_three_eq_false_iff, argField_toNat, harg]
  rfl

/-- The eleven legal words decode (30_encoding R96). -/
theorem exists_decode_ok_of_mem_legal (w : Byte)
    (h : w ∈ [0x10#8, 0x11#8, 0x20#8, 0x21#8, 0x22#8, 0x23#8, 0x24#8, 0x25#8, 0x26#8, 0x27#8, 0x30#8]) :
    ∃ i, decode w = .ok i := by
  fin_cases h <;> exact ⟨_, rfl⟩

/-! The words of the commands. -/

@[simp] theorem tableByte_toNat (w : Byte) : tableByte 8 w.toNat = w := by
  rw [tableByte, Nat.mod_eq_of_lt w.isLt, BitVec.ofNat_toNat, BitVec.setWidth_eq]

/-- READCH's word (30_encoding R92, R94). -/
theorem encode_readch (c : Nibble) : encode (.readch c) = BitVec.ofNat 8 (0x20 + c.toNat) := by
  revert c; decide

/-- The commands that are not well formed are READCH's with a channel 8 to 15 (30_encoding R94). -/
theorem exists_readch_of_not_wf (i : Instr) (h : ¬ i.WellFormed) : ∃ c : Nibble, i = .readch c ∧ 8 ≤ c.toNat := by
  cases i with
  | init | readtemp => exact absurd rfl h
  | readch c =>
    exact ⟨c, rfl, Nat.le_of_not_lt (mt (wf_readch_iff c).mpr h)⟩

theorem decode_encode_readch_outOfRange (c : Nibble) (h : 8 ≤ c.toNat) :
    decode (encode (.readch c)) = .error .channelRange := by
  have hc : c.toNat < 16 := c.isLt
  apply decode_channelRange
  rw [encode_readch, BitVec.toNat_ofNat]
  omega

end Sys2Proof

namespace Sys2Proof.Machine

open Sys2Proof.Safety

/-! HOST's write of a word, check by check (30_encoding R104, 60_exceptions R220). -/

theorem perform_hostWrite_busy (s : State) (w : Byte) (h : Live s) (hs : s.seqState ≠ .idle) :
    perform (.hostWriteCmd w) s = .next { s with fault := some (.cmdWhileBusy w) } := by
  rw [perform_live _ _ h]
  simp only [hostWrite, if_pos (s.busy_iff.mpr hs), raiseFault_eq, s.recordFault_of_none _ h.1]

/-- At IDLE the write of a word that spells no command records the decoder's fault. -/
theorem perform_hostWrite_error (s : State) (w : Byte) (d : DecodeFault) (h : Live s) (hs : s.seqState = .idle)
    (hd : decode w = .error d) :
    perform (.hostWriteCmd w) s = .next { s with fault := some (faultOf w d) } := by
  rw [perform_live _ _ h]
  simp [hostWrite, State.busy, hs, hd, s.recordFault_of_none _ h.1]

/-- At IDLE the write of a command's word is that command's step. -/
theorem perform_hostWrite_exec (s : State) (w : Byte) (i : Instr) (h : Live s) (hs : s.seqState = .idle)
    (hd : decode w = .ok i) : perform (.hostWriteCmd w) s = exec i s := by
  rw [perform_live _ _ h]
  simp [hostWrite, State.busy, hs, hd]

/-- At IDLE the write of a command's word latches the command. -/
theorem perform_hostWrite_latch (s : State) (w : Byte) (i : Instr) (h : Live s) (hs : s.seqState = .idle)
    (hd : decode w = .ok i) : perform (.hostWriteCmd w) s = .next (s.latch (latchOf i)) := by
  rw [perform_hostWrite_exec s w i h hs hd, exec_idle i s h.1 h.2 hs (decode_ok_wf w i hd)]

/-- The latch takes `ARG` from the word (30_encoding R104). -/
theorem latchOf_of_decode_ok (w : Byte) (i : Instr) (h : decode w = .ok i) :
    latchOf i = { op := latchOp i, arg := argField w } := by
  rw [← encode_of_decode_ok w i h, argField_encode, latchOf]

/-- At IDLE READCH with a channel 8 to 15 records the channel-range fault (30_encoding R94). -/
theorem exec_readch_idle_outOfRange (s : State) (c : Nibble) (h : Live s) (hs : s.seqState = .idle)
    (hc : 8 ≤ c.toNat) :
    exec (.readch c) s = .next { s with fault := some (.channelRange (encode (.readch c))) } := by
  have hw : ¬ (Instr.readch c).WellFormed := mt (wf_readch_iff c).mp hc.not_gt
  simp only [exec, execReadch, guarded_live s _ h.1 h.2, hs, if_neg hw, raiseFault_eq,
    s.recordFault_of_none _ h.1]

end Sys2Proof.Machine

namespace Sys2Proof.Proofs

open Sys2Proof.Machine Sys2Proof.Safety

/-- Settles O1: decoding inverts encoding on the well-formed commands, and the others are READCH's channels 8 to 15. -/
theorem decodeEncodeAgree : Obligations.DecodeEncodeAgree := by
  refine ⟨decode_encode, fun w i => (decode_eq_ok_iff w i).mp, fun i hi => ?_⟩
  obtain ⟨c, rfl, hc⟩ := exists_readch_of_not_wf i hi
  exact decode_encode_readch_outOfRange c hc

/-- Settles O3: the eleven words decode, and each of the others has its fault from the decoder. -/
theorem everyWordIsLegalOrFaults : Obligations.EveryWordIsLegalOrFaults := by
  intro s w hlive hs
  refine ⟨fun hmem => ?_, fun ⟨h1, h2, h3⟩ => ?_, fun hreserved => ?_, fun hrange => ?_⟩
  · obtain ⟨i, hd⟩ := exists_decode_ok_of_mem_legal w hmem
    exact ⟨_, perform_hostWrite_latch s w i hlive hs hd, hlive.1, rfl⟩
  · exact perform_hostWrite_error s w _ hlive hs (decode_illegalCmd w h1 h2 h3)
  · exact perform_hostWrite_error s w _ hlive hs
      (hreserved.elim (decode_init_reserved w) (decode_readtemp_reserved w))
  · exact perform_hostWrite_error s w _ hlive hs (decode_channelRange w hrange)

/-- Settles O6: the checks in their order, then the latch. -/
theorem hostWriteIsCheckedThenLatched : Obligations.HostWriteIsCheckedThenLatched := by
  intro s w
  refine ⟨fun f hf => guarded_fault s _ f hf, perform_hostWrite_busy s w,
    fun hlive hs d => perform_hostWrite_error s w d hlive hs, fun hlive hs i hd => ?_⟩
  rw [perform_hostWrite_latch s w i hlive hs hd, latchOf_of_decode_ok w i hd]
  rfl

/-- Settles O7: acceptance latches the command, and the latch spells it when SEQ's turn comes. -/
theorem acceptedCommandIsTheOnePerformed : Obligations.AcceptedCommandIsTheOnePerformed := by
  intro s i hlive hs hw
  refine ⟨s.latch (latchOf i), exec_idle i s hlive.1 hlive.2 hs hw, rfl, rfl, latchOf_instr i hw, ?_, rfl⟩
  rw [perform_seq_busy (s.latch (latchOf i)) hlive nofun, State.latch_cur, latchOf_instr i hw]

/-- Settles O2: each word of the opcode map is the encoding of its command; the zero word's `OP` is no command's. -/
theorem opcodeMapWordsDecode : Obligations.OpcodeMapWordsDecode :=
  ⟨decode_encode (.init false) rfl, decode_encode (.init true) rfl, decode_encode (.readch 0#4) rfl,
    decode_encode (.readch 7#4) rfl, decode_encode .readtemp rfl,
    decode_illegalCmd 0x00#8 (by decide) (by decide) (by decide)⟩

/-- Settles O4: READCH's lines by its word, INIT's by their two operands. -/
theorem assemblerLinesGiveTheirWords : Obligations.AssemblerLinesGiveTheirWords := by
  refine ⟨fun n => ?_, fun n => ?_, rfl, rfl, rfl⟩
  · by_cases hn : n ≤ 7
    · have hmod : n % 2 ^ 4 = n := Nat.mod_eq_of_lt (by omega)
      simp only [assemble, if_pos hn, Option.map_some, encode_readch, BitVec.toNat_ofNat, hmod]
    · simp only [assemble, if_neg hn, Option.map_none]
  · match n with
    | 0 | 1 => rfl
    | n + 2 => simp [assemble]

/-- Settles O5: a step performs the agenda's head, and HOST's write and SEQ's turn are steps of a command. -/
theorem stepRunsTheDecodedCommand : Obligations.StepRunsTheDecodedCommand := by
  refine ⟨fun s w i rest hlive hs hagenda hd => ?_, fun s rest hlive hs hagenda => ?_, fun s w i hlive hs hd => ?_⟩
  · rw [step_cons s _ rest hagenda]
    exact perform_hostWrite_exec _ w i hlive hs hd
  · rw [step_cons s _ rest hagenda]
    exact perform_seq_busy _ hlive hs
  · rw [step_cons (s.withFetchWord 8 w.toNat) _ s.agenda rfl, tableByte_toNat]
    exact perform_hostWrite_exec s w i hlive hs hd

/-- Settles O8: the fault of a channel out of range, with READCH's word. -/
theorem channelOutOfRangeFaults : Obligations.ChannelOutOfRangeFaults := by
  intro s c hlive hs hc
  rw [exec_readch_idle_outOfRange s c hlive hs hc, encode_readch]

end Sys2Proof.Proofs
end

section
/-! PROOFS. INIT at PENDING: the fields and the frame of `afterInit`, its repetition, and one INIT performed after another
(40_init R120 to R123). -/

namespace Sys2Proof.Machine

open Sys2Proof.Safety

/-- Writing a field the value it holds changes nothing (20_memory R66). -/
theorem setField_of_getField_eq {n : Nat} {w : Byte} {p : Nat} {v : BitVec n} (h : getField w p n = v) :
    setField w p v = w := by
  rw [← h, setField_getField]

/-! The fields INIT writes (40_init R120). -/

@[simp] theorem afterInit_en (e : Bool) (s : State) : (afterInit e s).en = if e then 1#1 else 0#1 := by
  simp [State.views_eq, afterInit]

@[simp] theorem afterInit_ps (e : Bool) (s : State) : (afterInit e s).ps = if e then 0b111#3 else 0b000#3 := by
  simp [State.views_eq, afterInit]

@[simp] theorem afterInit_ref (e : Bool) (s : State) : (afterInit e s).ref = if e then 0b01#2 else 0b00#2 := by
  cases e <;> simp [State.views_eq, afterInit]

@[simp] theorem afterInit_align (e : Bool) (s : State) : (afterInit e s).align = if e then 0#1 else s.align := by
  cases e <;> simp [State.views_eq, afterInit]

/-! What INIT does not touch (40_init R122). -/

@[simp] theorem afterInit_ch (e : Bool) (s : State) : (afterInit e s).ch = s.ch := by
  cases e <;> simp [State.views_eq, afterInit]

@[simp] theorem afterInit_modeUnnamed (e : Bool) (s : State) : (afterInit e s).modeUnnamed = s.modeUnnamed := by
  cases e <;> simp [State.views_eq, afterInit]

@[simp] theorem afterInit_start (e : Bool) (s : State) : (afterInit e s).start = s.start := by
  simp [State.views_eq, afterInit]

@[simp] theorem afterInit_flag (e : Bool) (s : State) : (afterInit e s).flag = s.flag := by
  simp [State.views_eq, afterInit]

@[simp] theorem afterInit_ctrlUnnamedHi (e : Bool) (s : State) : (afterInit e s).ctrlUnnamedHi = s.ctrlUnnamedHi := by
  simp [State.views_eq, afterInit]

@[simp] theorem afterInit_ctrlUnnamedLo (e : Bool) (s : State) : (afterInit e s).ctrlUnnamedLo = s.ctrlUnnamedLo := by
  simp [State.views_eq, afterInit]

theorem afterInit_frame (e : Bool) (s : State) :
    { afterInit e s with mode := s.mode, ctrl := s.ctrl, seqState := s.seqState } = s := rfl

@[simp] theorem State.setSeq_ch (s : State) (q : SeqState) : (s.setSeq q).ch = s.ch := rfl

/-! INIT's step as an answer of exec, alone and after another INIT. -/

/-- INIT at PENDING answers `afterInit` (40_init R120). -/
theorem exec_init_pending_eq (s : State) (e : Bool) (h : Live s) (hs : s.seqState = .pending) :
    exec (.init e) s = .next (afterInit e s) := by
  rw [exec_init_pending s e h hs, initStep_eq, afterInit]

/-- INIT at PENDING answers a next state in a live state only, and then `afterInit`. -/
theorem exec_init_pending_next {s t : State} {e : Bool} (hs : s.seqState = .pending)
    (h : exec (.init e) s = .next t) : Live s ∧ t = afterInit e s := by
  have hlive := live_of_exec_next h
  rw [exec_init_pending_eq s e hlive hs] at h
  cases h
  exact ⟨hlive, rfl⟩

/-- After an INIT, brought to PENDING again, any INIT is performed: the first recorded nothing. -/
theorem exec_init_after_init {s t : State} {d : Bool} (e : Bool) (hs : s.seqState = .pending)
    (h : exec (.init d) s = .next t) :
    exec (.init e) (t.setSeq .pending) = .next (afterInit e ((afterInit d s).setSeq .pending)) := by
  obtain ⟨hlive, rfl⟩ := exec_init_pending_next hs h
  exact exec_init_pending_eq _ e hlive rfl

/-- A second INIT of the same kind writes every field the value it holds (40_init R123). -/
theorem afterInit_afterInit (e : Bool) (s : State) :
    afterInit e ((afterInit e s).setSeq .pending) = afterInit e s := by
  cases e with
  | false | true => simp [afterInit, setField_of_getField_eq]; rfl

end Sys2Proof.Machine

namespace Sys2Proof.Proofs

open Sys2Proof.Machine Sys2Proof.Safety

/-- Settles O9: the step is `afterInit`, whose fields and frame are known. -/
theorem initWritesExactlyItsFields : Obligations.InitWritesExactlyItsFields := by
  intro s e hlive hs
  exact ⟨afterInit e s, exec_init_pending_eq s e hlive hs, afterInit_ps e s, afterInit_ref e s, afterInit_align e s,
    afterInit_en e s, afterInit_ch e s, afterInit_start e s, afterInit_flag e s, afterInit_modeUnnamed e s,
    afterInit_ctrlUnnamedHi e s, afterInit_ctrlUnnamedLo e s, rfl, afterInit_frame e s⟩

/-- Settles O10: the fields of `afterInit`, once for the post-conditions and once more over the first INIT's state. -/
theorem initRepeatedAndTornDown : Obligations.InitRepeatedAndTornDown := by
  refine ⟨fun s t e hs h => ?_, fun s t e hs h => ?_, fun s t hs h => ?_, fun s t hs h => ?_⟩
  · obtain ⟨-, rfl⟩ := exec_init_pending_next hs h
    constructor <;> rintro rfl <;> simp
  · have hagain := exec_init_after_init e hs h
    obtain ⟨-, rfl⟩ := exec_init_pending_next hs h
    rwa [afterInit_afterInit] at hagain
  · exact ⟨_, exec_init_after_init false hs h, by simp, by simp, by simp, by simp⟩
  · exact ⟨_, exec_init_after_init true hs h, by simp, by simp, by simp, by simp, by simp⟩

end Sys2Proof.Proofs
end

section
/-! PROOFS. The read commands step by step (41_read_channel R141 to R154): the state each step of the conversion cycle leaves,
and SEQ's and CONV's turns in terms of it. -/

namespace Sys2Proof.Machine

open Sys2Proof.Safety

/-! The states the steps leave. -/

/-- The state a configure step leaves (41_read_channel R141, 42_read_temperature R181). -/
def afterConfigure (r : BitVec 2) (c : Nibble) (s : State) : State :=
  (s.setMode (setField (setField s.mode refPos r) chPos c)).setSeq .configured

/-- The state the start step of an enabled ADC leaves (41_read_channel R145). -/
def afterStart (s : State) : State :=
  ((s.setCtrl (setField s.ctrl startPos 1#1)).beginConversion).setSeq .started

/-- The state the converter's completion leaves (41_read_channel R150). -/
def afterConv (v : Sample) (u : BitVec 6) (s : State) : State :=
  (s.setCtrl (setField (setField s.ctrl startPos 0#1) flagPos 1#1)).endConversion
    (v.extractLsb' 0 8) (u ++ v.extractLsb' 8 2)

/-- The state the clear step leaves (41_read_channel R148). -/
def afterClear (s : State) : State := (s.setCtrl (setField s.ctrl flagPos 0#1)).setSeq .cleared

/-- The state the data-read step leaves (41_read_channel R149). -/
def afterDataRead (s : State) : State := (s.setRaw (combine s.datah s.datal)).setSeq .resultRead

/-- A configure step selects a reference and an input, and keeps the rest of MODE. -/
theorem afterConfigure_mode_fields (r : BitVec 2) (c : Nibble) (s : State) :
    (afterConfigure r c s).ref = r ∧ (afterConfigure r c s).ch = c ∧ (afterConfigure r c s).align = s.align ∧
      (afterConfigure r c s).modeUnnamed = s.modeUnnamed := by
  simp [State.views_eq, afterConfigure]

/-- The start step sets START and keeps the rest of CTRL. -/
theorem afterStart_ctrl_fields (s : State) :
    (afterStart s).start = 1#1 ∧ (afterStart s).en = s.en ∧ (afterStart s).flag = s.flag ∧ (afterStart s).ps = s.ps ∧
      (afterStart s).ctrlUnnamedHi = s.ctrlUnnamedHi ∧ (afterStart s).ctrlUnnamedLo = s.ctrlUnnamedLo := by
  simp [State.views_eq, afterStart]

/-- The completion clears START, sets FLAG and keeps the rest of CTRL. -/
theorem afterConv_ctrl_fields (v : Sample) (u : BitVec 6) (s : State) :
    (afterConv v u s).start = 0#1 ∧ (afterConv v u s).flag = 1#1 ∧ (afterConv v u s).en = s.en ∧
      (afterConv v u s).ps = s.ps ∧ (afterConv v u s).ctrlUnnamedHi = s.ctrlUnnamedHi ∧
      (afterConv v u s).ctrlUnnamedLo = s.ctrlUnnamedLo := by
  simp [State.views_eq, afterConv]

/-- The completion's data pair in numbers: the sample's low byte, and the draw above the sample's two high bits. -/
theorem afterConv_data_toNat (v : Sample) (u : BitVec 6) (s : State) :
    (afterConv v u s).datal.toNat = v.toNat % 256 ∧ (afterConv v u s).datah.toNat = 4 * u.toNat + v.toNat / 256 := by
  have hv : v.toNat < 1024 := v.isLt
  have hhigh : (v.extractLsb' 8 2).toNat = v.toNat / 256 := by
    rw [BitVec.extractLsb'_toNat, Nat.shiftRight_eq_div_pow]
    omega
  constructor
  · change (v.extractLsb' 0 8).toNat = _
    rw [BitVec.extractLsb'_toNat, Nat.shiftRight_zero]
  · change (u ++ v.extractLsb' 8 2).toNat = _
    rw [BitVec.toNat_append, ← Nat.shiftLeft_add_eq_or_of_lt (v.extractLsb' 8 2).isLt, hhigh, Nat.shiftLeft_eq]
    omega

/-- The clear step clears FLAG and keeps the rest of CTRL. -/
theorem afterClear_ctrl_fields (s : State) :
    (afterClear s).flag = 0#1 ∧ (afterClear s).en = s.en ∧ (afterClear s).start = s.start ∧ (afterClear s).ps = s.ps ∧
      (afterClear s).ctrlUnnamedHi = s.ctrlUnnamedHi ∧ (afterClear s).ctrlUnnamedLo = s.ctrlUnnamedLo := by
  simp [State.views_eq, afterClear]

/-- The channel code in numbers (41_read_channel R141). -/
theorem channelCode_toNat (c : Nibble) : (channelCode c).toNat = c.toNat % 8 := by
  revert c; decide

/-- The first refusal makes REFUSED a singleton (60_exceptions R219). -/
theorem State.recordRefusal_of_nil (s : State) (r : Refusal) (h : s.refused = []) :
    s.recordRefusal r = { s with refused := [r] } := by
  simp [State.recordRefusal, h]

/-! CONV's turn. -/

theorem perform_conv_active (s : State) (v : Sample) (u : BitVec 6) (h : Live s) (ha : s.convActive = true)
    (hl : s.align = 0#1) : perform (.conv v u) s = .next (afterConv v u s) := by
  rw [perform_live _ _ h]
  exact convStep_active v u s ha hl

theorem perform_conv_inactive (s : State) (v : Sample) (u : BitVec 6) (h : Live s) (ha : s.convActive = false) :
    perform (.conv v u) s = .next s := by
  rw [perform_live _ _ h]
  exact convStep_inactive v u s ha

/-! SEQ's turn while a read command is in progress, state by state (10_state R23). -/

/-- A latch whose `OP` is not INIT's spells a read command (10_state R22). -/
theorem isRead_instr {k : CmdLatch} (ho : k.op ≠ .init) : IsRead k.instr := by
  unfold CmdLatch.instr
  cases hop : k.op with
  | init => exact absurd hop ho
  | readch => exact .inl ⟨_, rfl⟩
  | readtemp => exact .inr rfl

theorem perform_seq_start (s : State) (h : Live s) (ho : s.cur.op ≠ .init) (hq : s.seqState = .configured)
    (he : s.en = 1#1) : perform .seq s = .next (afterStart s) := by
  rw [perform_seq_busy s h (by simp [hq]), (exec_read_shared s _ (isRead_instr ho) h).1 hq]
  exact startStep_enabled s he

theorem perform_seq_poll_clear (s : State) (h : Live s) (ho : s.cur.op ≠ .init) (hq : s.seqState = .started)
    (hf : s.flag = 0#1) : perform .seq s = .next s := by
  rw [perform_seq_busy s h (by simp [hq]), (exec_read_shared s _ (isRead_instr ho) h).2.1 hq]
  exact pollStep_clear s hf

theorem perform_seq_poll_set (s : State) (h : Live s) (ho : s.cur.op ≠ .init) (hq : s.seqState = .started)
    (hf : s.flag = 1#1) : perform .seq s = .next (s.setSeq .complete) := by
  rw [perform_seq_busy s h (by simp [hq]), (exec_read_shared s _ (isRead_instr ho) h).2.1 hq]
  exact pollStep_set s hf

theorem perform_seq_clear (s : State) (h : Live s) (ho : s.cur.op ≠ .init) (hq : s.seqState = .complete) :
    perform .seq s = .next (afterClear s) := by
  rw [perform_seq_busy s h (by simp [hq]), (exec_read_shared s _ (isRead_instr ho) h).2.2.1 hq]
  exact clearStep_eq s

theorem perform_seq_dataRead (s : State) (h : Live s) (ho : s.cur.op ≠ .init) (hq : s.seqState = .cleared)
    (hl : s.align = 0#1) : perform .seq s = .next (afterDataRead s) := by
  rw [perform_seq_busy s h (by simp [hq]), (exec_read_shared s _ (isRead_instr ho) h).2.2.2 hq]
  exact dataReadStep_right s hl

/-- The configure step of a latched read command (41_read_channel R141, 42_read_temperature R181). -/
theorem perform_seq_configure (s : State) (h : Live s) (hq : s.seqState = .pending) :
    (s.cur.op = .readch → perform .seq s = .next (afterConfigure 0b01#2 (channelCode s.cur.arg) s)) ∧
    (s.cur.op = .readtemp → perform .seq s = .next (afterConfigure 0b11#2 0b1000#4 s)) := by
  rw [perform_seq_busy s h (by simp [hq])]
  constructor <;> intro ho <;> simp only [CmdLatch.instr, ho]
  · rw [exec_readch_pending s _ h hq, configureReadch_eq, channelCode_channelCode, afterConfigure]
  · rw [exec_readtemp_pending s h hq, configureReadtemp_eq, afterConfigure]

/-- The final step of a latched read command (41_read_channel R153, 42_read_temperature R188). -/
theorem perform_seq_deliver (s : State) (h : Live s) (hq : s.seqState = .resultRead) :
    (s.cur.op = .readch → perform .seq s = .next ((s.publish s.raw).setSeq .idle)) ∧
    (s.cur.op = .readtemp →
      perform .seq s = .next ((s.publish (tempResult (s.raw.extractLsb' 0 10))).setSeq .idle)) := by
  rw [perform_seq_busy s h (by simp [hq])]
  constructor <;> intro ho <;> simp only [CmdLatch.instr, ho]
  · rw [exec_readch_resultRead s _ h hq, deliverReadch]
  · rw [exec_readtemp_resultRead s h hq, deliverReadtemp]

end Sys2Proof.Machine

namespace Sys2Proof.Proofs

open Sys2Proof.Machine Sys2Proof.Safety

/-- Settles O12: the configure step selects reference 01 and the operand's channel code. -/
theorem readchConfiguresReferenceAndChannel : Obligations.ReadchConfiguresReferenceAndChannel := by
  intro s c hlive hq
  obtain ⟨href, hch, halign, hunnamed⟩ := afterConfigure_mode_fields 0b01#2 (channelCode c) s
  refine ⟨afterConfigure 0b01#2 (channelCode c) s, ?_, href, ?_, halign, hunnamed, rfl, rfl⟩
  · rw [exec_readch_pending s c hlive hq, configureReadch_eq, afterConfigure]
  · rw [hch, channelCode_toNat]

/-- Settles O14: the two branches of the shared start step. -/
theorem startStepBeginsConversionOrFaults : Obligations.StartStepBeginsConversionOrFaults := by
  intro s i hi hlive hq
  obtain ⟨hexec, -⟩ := exec_read_shared s i hi hlive
  rw [hexec hq]
  refine ⟨fun hdisabled => ?_, fun henabled => ?_⟩
  · rw [startStep_disabled s hdisabled, s.recordFault_of_none _ hlive.1]
  · obtain ⟨hstart, hen, hflag, hps, hhi, hlo⟩ := afterStart_ctrl_fields s
    exact ⟨afterStart s, startStep_enabled s henabled, hstart, rfl, rfl, rfl, hen, hflag, hps, hhi, hlo, rfl⟩

/-- Settles O16: the shared clear step writes FLAG alone. -/
theorem clearStepClearsOnlyTheFlag : Obligations.ClearStepClearsOnlyTheFlag := by
  intro s i hi hlive hq
  obtain ⟨-, -, hexec, -⟩ := exec_read_shared s i hi hlive
  obtain ⟨hflag, hen, hstart, hps, hhi, hlo⟩ := afterClear_ctrl_fields s
  exact ⟨afterClear s, (hexec hq).trans (clearStep_eq s), hflag, rfl, hen, hstart, hps, hhi, hlo, rfl⟩

/-- Settles O17: the shared data-read step on a right-aligned pair, and its refusal on a left-aligned one. -/
theorem dataReadCombinesThePair : Obligations.DataReadCombinesThePair := by
  intro s i hi hlive hq
  obtain ⟨-, -, -, hexec⟩ := exec_read_shared s i hi hlive
  rw [hexec hq]
  refine ⟨fun hright => ?_, fun hleft => ?_⟩
  · exact ⟨afterDataRead s, dataReadStep_right s hright, combine_toNat s.datah s.datal, rfl, rfl⟩
  · rw [dataReadStep_left s (by simp [hleft]), s.recordRefusal_of_nil _ hlive.2]

/-- Settles O22: the completion writes the pair, START and FLAG; without a conversion CONV's turn passes. -/
theorem converterCompletesTheConversion : Obligations.ConverterCompletesTheConversion := by
  intro s v u hlive
  refine ⟨fun hactive halign => ?_, perform_conv_inactive s v u hlive⟩
  obtain ⟨hdatal, hdatah⟩ := afterConv_data_toNat v u s
  obtain ⟨hstart, hflag, hen, hps, hhi, hlo⟩ := afterConv_ctrl_fields v u s
  exact ⟨afterConv v u s, perform_conv_active s v u hlive hactive halign, hdatal, hdatah, hstart, hflag, rfl, rfl, hen,
    hps, hhi, hlo, rfl⟩

/-- Settles O23: the combine in numbers, and applied to the pair a completion writes. -/
theorem combineArithmetic : Obligations.CombineArithmetic := by
  refine ⟨fun h l => ⟨combine_toNat h l, combine_toNat_le h l⟩, fun s t v u hactive halign hstep => ?_⟩
  obtain ⟨hf, hr, -⟩ := perform_moves _ s t hstep
  rw [perform_conv_active s v u ⟨hf, hr⟩ hactive halign] at hstep
  cases hstep
  change (combine (u ++ v.extractLsb' 8 2) (v.extractLsb' 0 8)).toNat = v.toNat
  rw [combine_conv, BitVec.toNat_setWidth_of_le (by decide)]

/-- Settles O24: MODE is written at PENDING only, and a conversion is outstanding at STARTED only. -/
theorem inputSelectionHeldDuringConversion : Obligations.InputSelectionHeldDuringConversion := by
  intro s t e hinv hactive hstep
  obtain ⟨-, -, hm⟩ := perform_moves e s t hstep
  have hstarted := hinv.started_of_convActive hactive
  have hmode : t.mode = s.mode := hm.mode_eq_or.resolve_right fun ⟨_, hpending⟩ => by simp [hstarted] at hpending
  simp [State.views_eq, hmode]

/-- Settles O15: the two outcomes of the shared poll step. -/
theorem pollStepWaitsForTheFlag : Obligations.PollStepWaitsForTheFlag := by
  intro s i hi hlive hq
  obtain ⟨-, hexec, -⟩ := exec_read_shared s i hi hlive
  rw [hexec hq]
  exact ⟨pollStep_set s, pollStep_clear s⟩

/-- Settles O18: READCH publishes RAW, which the invariant bounds at RESULT_READ. -/
theorem readchDeliversRaw : Obligations.ReadchDeliversRaw := by
  intro s c hlive hq
  exact ⟨exec_readch_resultRead s c hlive hq, fun hinv => hinv.raw_toNat_le hq⟩

end Sys2Proof.Proofs
end

section
/-! PROOFS. A whole READCH (41_read_channel R140, R155, R156): runs of an agenda's events, and the conversion cycle that both
read commands share as one equation between runs. -/

namespace Sys2Proof.Machine

open Sys2Proof.Safety

/-! Runs of an agenda. -/

/-- The state with another agenda. -/
def State.withAgenda (s : State) (es : List Event) : State := { s with agenda := es }

/-- The agenda's first event is the first step of a run; what it does does not depend on the events after it. -/
theorem run_withAgenda_cons (n : Nat) {s t : State} {e : Event} {rest : List Event}
    (hp : ∀ es, perform e (s.withAgenda es) = .next (t.withAgenda es)) :
    core.run (n + 1) (s.withAgenda (e :: rest)) = core.run n (t.withAgenda rest) :=
  run_cons n _ _ e rest rfl (hp rest)

/-- Polls that see FLAG = 0 use up their turns and change nothing (41_read_channel R146, R147). -/
theorem run_polls (n polls : Nat) (s : State) (rest : List Event) (h : Live s) (ho : s.cur.op ≠ .init)
    (hq : s.seqState = .started) (hf : s.flag = 0#1) :
    core.run (n + polls) (s.withAgenda (List.replicate polls .seq ++ rest)) = core.run n (s.withAgenda rest) := by
  induction polls with
  | zero => rfl
  | succ k ih =>
    exact (run_withAgenda_cons (n + k) fun es => perform_seq_poll_clear (s.withAgenda es) h ho hq hf).trans ih

/-! The conversion cycle. -/

/-- The events from a read command's start step to its data-read step (41_read_channel R145 to R150). -/
def cycleEvents (polls : Nat) (v : Sample) (u : BitVec 6) : List Event :=
  .seq :: (List.replicate polls .seq ++ [.conv v u, .seq, .seq, .seq])

theorem readSchedule_eq (w : Byte) (polls : Nat) (v : Sample) (u : BitVec 6) :
    readSchedule w polls v u = .hostWriteCmd w :: .seq :: (cycleEvents polls v u ++ [.seq]) := by
  simp [readSchedule, cycleEvents]

/-- The state a conversion cycle leaves: the pair as the converter wrote it, RAW the sample, and CTRL as it was. -/
def afterCycle (v : Sample) (u : BitVec 6) (s : State) : State :=
  { s with
    datal := v.extractLsb' 0 8, datah := u ++ v.extractLsb' 8 2, raw := v.setWidth 16
    convActive := false, dataValid := true, seqState := .resultRead }

/-- Setting and clearing START and FLAG puts CTRL back to its value before the start step (41_read_channel R156). -/
theorem ctrl_after_cycle {w : Byte} (hs : getField w startPos 1 = 0#1) (hf : getField w flagPos 1 = 0#1) :
    setField (setField (setField (setField w startPos 1#1) startPos 0#1) flagPos 1#1) flagPos 0#1 = w := by
  rw [setField_setField_same, setField_setField_same, setField_of_getField_eq hs, setField_of_getField_eq hf]

/-- The steps of the cycle one after another lead to `afterCycle` (41_read_channel R154, R156). -/
theorem cycle_steps_eq (v : Sample) (u : BitVec 6) (s : State) (hs : s.start = 0#1) (hf : s.flag = 0#1) :
    afterDataRead (afterClear ((afterConv v u (afterStart s)).setSeq .complete)) = afterCycle v u s := by
  change { afterCycle v u s with
    ctrl := setField (setField (setField (setField s.ctrl startPos 1#1) startPos 0#1) flagPos 1#1) flagPos 0#1
    raw := combine (u ++ v.extractLsb' 8 2) (v.extractLsb' 0 8) } = afterCycle v u s
  rw [ctrl_after_cycle hs hf, combine_conv]
  rfl

/-- A run over the events of a cycle, from CONFIGURED on an enabled block with no conversion and no flag. -/
theorem run_cycle (n polls : Nat) (v : Sample) (u : BitVec 6) (s : State) (rest : List Event) (h : Live s)
    (ho : s.cur.op ≠ .init) (hq : s.seqState = .configured) (he : s.en = 1#1) (hl : s.align = 0#1)
    (hs : s.start = 0#1) (hf : s.flag = 0#1) :
    core.run (n + 4 + polls + 1) (s.withAgenda (cycleEvents polls v u ++ rest)) =
      core.run n ((afterCycle v u s).withAgenda rest) := by
  obtain ⟨-, -, hflag, -⟩ := afterStart_ctrl_fields s
  obtain ⟨-, hset, -⟩ := afterConv_ctrl_fields v u (afterStart s)
  simp only [cycleEvents, List.cons_append, List.append_assoc, List.nil_append]
  calc
    _ = core.run (n + 4 + polls) ((afterStart s).withAgenda _) :=
      run_withAgenda_cons _ fun es => perform_seq_start (s.withAgenda es) h ho hq he
    _ = core.run (n + 4) ((afterStart s).withAgenda _) := run_polls _ polls (afterStart s) _ h ho rfl (hflag.trans hf)
    _ = core.run (n + 3) ((afterConv v u (afterStart s)).withAgenda _) :=
      run_withAgenda_cons _ fun es => perform_conv_active ((afterStart s).withAgenda es) v u h rfl hl
    _ = core.run (n + 2) (((afterConv v u (afterStart s)).setSeq .complete).withAgenda _) :=
      run_withAgenda_cons _ fun es => perform_seq_poll_set ((afterConv v u (afterStart s)).withAgenda es) h ho rfl hset
    _ = core.run (n + 1) ((afterClear ((afterConv v u (afterStart s)).setSeq .complete)).withAgenda _) :=
      run_withAgenda_cons _ fun es =>
        perform_seq_clear (((afterConv v u (afterStart s)).setSeq .complete).withAgenda es) h ho rfl
    _ = core.run n ((afterDataRead (afterClear ((afterConv v u (afterStart s)).setSeq .complete))).withAgenda rest) :=
      run_withAgenda_cons _ fun es =>
        perform_seq_dataRead ((afterClear ((afterConv v u (afterStart s)).setSeq .complete)).withAgenda es) h ho rfl hl
    _ = _ := by rw [cycle_steps_eq v u s hs hf]

/-! The whole command. -/

/-- READCH's word decodes for a channel 0 to 7 (30_encoding R92, R94). -/
theorem decode_readch_word (c : Nibble) (hc : c.toNat ≤ 7) : decode (BitVec.ofNat 8 (0x20 + c.toNat)) = .ok (.readch c) := by
  rw [← encode_readch]
  exact decode_encode _ ((wf_readch_iff c).mpr (by omega))

/-- The state READCH's acceptance and configure step leave: the command in CUR, its input in MODE. -/
def configuredReadch (c : Nibble) (s : State) : State := afterConfigure 0b01#2 c (s.latch (latchOf (.readch c)))

/-- The state READCH leaves at IDLE, with the sample in RESULT (41_read_channel R155). -/
def afterReadch (c : Nibble) (v : Sample) (u : BitVec 6) (s : State) : State :=
  ((afterCycle v u (configuredReadch c s)).publish (v.setWidth 16)).setSeq .idle

/-- The configure step of an accepted READCH of a channel 0 to 7 writes the channel as it is (41_read_channel R141). -/
theorem perform_seq_configuredReadch (s : State) (c : Nibble) (h : Live s) (hc : c.toNat ≤ 7) :
    perform .seq (s.latch (latchOf (.readch c))) = .next (configuredReadch c s) := by
  have hcode : channelCode (latchOf (.readch c)).arg = c :=
    channelCode_of_legal c ((getLsbD_three_eq_false_iff c).mpr (by omega))
  obtain ⟨hconfigure, -⟩ := perform_seq_configure (s.latch (latchOf (.readch c))) h rfl
  rw [hconfigure rfl, State.latch_cur, hcode, configuredReadch]

/-- A run over the events of one READCH, from IDLE on an enabled block. -/
theorem run_readch (s : State) (c : Nibble) (polls : Nat) (v : Sample) (u : BitVec 6) (rest : List Event) (h : Live s)
    (hq : s.seqState = .idle) (he : s.en = 1#1) (hl : s.align = 0#1) (hf : s.flag = 0#1) (hs : s.start = 0#1)
    (hc : c.toNat ≤ 7) :
    core.run (polls + 8) (s.withAgenda (readSchedule (BitVec.ofNat 8 (0x20 + c.toNat)) polls v u ++ rest)) =
      .next ((afterReadch c v u s).withAgenda rest) := by
  obtain ⟨-, -, halign, -⟩ := afterConfigure_mode_fields 0b01#2 c (s.latch (latchOf (.readch c)))
  rw [readSchedule_eq, List.cons_append, List.cons_append, List.append_assoc,
    show polls + 8 = 1 + 4 + polls + 1 + 1 + 1 by omega]
  calc
    _ = core.run (1 + 4 + polls + 1 + 1) ((s.latch (latchOf (.readch c))).withAgenda _) :=
      run_withAgenda_cons _ fun es => perform_hostWrite_latch (s.withAgenda es) _ _ h hq (decode_readch_word c hc)
    _ = core.run (1 + 4 + polls + 1) ((configuredReadch c s).withAgenda _) :=
      run_withAgenda_cons _ fun es => perform_seq_configuredReadch (s.withAgenda es) c h hc
    _ = core.run 1 ((afterCycle v u (configuredReadch c s)).withAgenda _) :=
      run_cycle 1 polls v u _ _ h nofun rfl he (halign.trans hl) hs hf
    _ = core.run 0 ((afterReadch c v u s).withAgenda rest) :=
      run_withAgenda_cons 0 fun es =>
        (perform_seq_deliver ((afterCycle v u (configuredReadch c s)).withAgenda es) h rfl).1 rfl

end Sys2Proof.Machine

namespace Sys2Proof.Proofs

open Sys2Proof.Machine Sys2Proof.Safety

/-- Settles O45: the run ends in `afterReadch`, whose MODE is the configure step's and whose CTRL is the first state's. -/
theorem readchRunDeliversTheSample : Obligations.ReadchRunDeliversTheSample := by
  intro s c polls v u rest hlive hq he hl hf hs hc hagenda
  have hrun := run_readch s c polls v u rest hlive hq he hl hf hs hc
  rw [← hagenda] at hrun
  obtain ⟨href, hch, halign, -⟩ := afterConfigure_mode_fields 0b01#2 c (s.latch (latchOf (.readch c)))
  exact ⟨_, hrun, BitVec.toNat_setWidth_of_le (by decide), rfl, rfl, hch, href, halign.trans hl, hf, hs, he, rfl, hlive,
    rfl⟩

end Sys2Proof.Proofs
end

section
/-! PROOFS. Termination of the read commands (41_read_channel R152): the turns a command in progress still needs, which no
turn of the waiting agents increases and the awaited agent's turn decreases. -/

namespace Sys2Proof.Machine

open Sys2Proof.Safety

/-! SEQ's turn at IDLE, and the two turns in which the read commands differ, whichever of them is latched. -/

theorem perform_seq_idle (s : State) (h : Live s) (hq : s.seqState = .idle) : perform .seq s = .next s := by
  rw [perform_live _ _ h]
  simp [seqTurn, State.busy, hq]

theorem exists_perform_seq_configure (s : State) (h : Live s) (ho : s.cur.op ≠ .init) (hq : s.seqState = .pending) :
    ∃ r c, perform .seq s = .next (afterConfigure r c s) := by
  obtain ⟨hreadch, hreadtemp⟩ := perform_seq_configure s h hq
  cases hop : s.cur.op with
  | init => exact absurd hop ho
  | readch => exact ⟨_, _, hreadch hop⟩
  | readtemp => exact ⟨_, _, hreadtemp hop⟩

theorem exists_perform_seq_deliver (s : State) (h : Live s) (ho : s.cur.op ≠ .init) (hq : s.seqState = .resultRead) :
    ∃ v, perform .seq s = .next ((s.publish v).setSeq .idle) := by
  obtain ⟨hreadch, hreadtemp⟩ := perform_seq_deliver s h hq
  cases hop : s.cur.op with
  | init => exact absurd hop ho
  | readch => exact ⟨_, hreadch hop⟩
  | readtemp => exact ⟨_, hreadtemp hop⟩

end Sys2Proof.Machine

namespace Sys2Proof.Safety

open Sys2Proof.Machine

/-! A read command under way. -/

/-- A read command of an enabled block, in progress or delivered. -/
structure Reading (s : State) : Prop where
  inv : BlockInv s
  live : Live s
  read : s.cur.op ≠ .init
  enabled : s.en = 1#1
  delivered : s.seqState = .idle → s.resultValid = true

/-- What an agent may do while a read command runs (`HostWaits`, log 23). -/
def Waits (e : Event) : Prop := e = .seq ∨ e = .hostReadStatus ∨ ∃ v u, e = .conv v u

/-- How many turns of the agent whose turn is awaited a read command still needs (10_state R23). -/
def turnsLeft (s : State) : Nat :=
  match s.seqState with
  | .pending => 7
  | .configured => 6
  | .started => if s.flag = 1#1 then 4 else 5
  | .complete => 3
  | .cleared => 2
  | .resultRead => 1
  | .idle => 0

/-- Whose turn is awaited: CONV's while the conversion is outstanding, SEQ's otherwise. -/
def Awaited (turns : Nat) (e : Event) : Prop := if turns = 5 then ∃ v u, e = .conv v u else e = .seq

theorem turnsLeft_eq_zero_iff (s : State) : turnsLeft s = 0 ↔ s.seqState = .idle := by
  unfold turnsLeft
  cases hq : s.seqState with
  | started => by_cases hf : s.flag = 1#1 <;> simp [hf]
  | idle | pending | configured | complete | cleared | resultRead => simp

theorem turnsLeft_eq_five_iff (s : State) : turnsLeft s = 5 ↔ s.seqState = .started ∧ s.flag ≠ 1#1 := by
  unfold turnsLeft
  cases hq : s.seqState with
  | started => by_cases hf : s.flag = 1#1 <;> simp [hf]
  | idle | pending | configured | complete | cleared | resultRead => simp

/-- Right alignment is one of the codes the invariant allows (10_state R27). -/
theorem BlockInv.align_eq_zero {s : State} (h : BlockInv s) : s.align = 0#1 := by
  obtain ⟨-, halign, -⟩ := h.codes
  exact halign

/-- At STARTED without the flag a conversion is outstanding (41_read_channel R145, R150). -/
theorem BlockInv.convActive_of_started {s : State} (h : BlockInv s) (hq : s.seqState = .started) (hf : s.flag ≠ 1#1) :
    s.convActive = true := by
  obtain ⟨hstarted, -⟩ := h.cycle
  obtain ⟨-, ⟨hstart, -⟩ | ⟨-, hset, -⟩⟩ := hstarted hq
  · exact h.active.mpr hstart
  · exact absurd hset hf

/-- A step that records nothing and keeps CUR and EN keeps the command under way, if it delivers whenever it ends. -/
theorem Reading.after {s t : State} {e : Event} (h : Reading s) (hp : perform e s = .next t) (hlive : Live t)
    (hcur : t.cur = s.cur) (hen : t.en = s.en) (hdel : t.seqState = .idle → t.resultValid = true) : Reading t where
  inv := h.inv.moves (perform_moves e s t hp).2.2
  live := hlive
  read := hcur ▸ h.read
  enabled := hen.trans h.enabled
  delivered := hdel

/-! One turn. -/

/-- SEQ's turn goes on by one row of 10_state R23, unless SEQ polls a conversion that is outstanding or has delivered. -/
theorem Reading.seq_turn {s : State} (h : Reading s) :
    ∃ t, perform .seq s = .next t ∧ Reading t ∧
      (turnsLeft t + 1 = turnsLeft s ∨ turnsLeft s = 5 ∧ t = s ∨ turnsLeft s = 0 ∧ t = s) := by
  cases hq : s.seqState with
  | idle => exact ⟨s, perform_seq_idle s h.live hq, h, .inr (.inr ⟨(turnsLeft_eq_zero_iff s).mpr hq, rfl⟩)⟩
  | pending =>
    obtain ⟨r, c, hp⟩ := exists_perform_seq_configure s h.live h.read hq
    exact ⟨_, hp, h.after hp h.live rfl rfl nofun, .inl (by simp [turnsLeft, hq, afterConfigure])⟩
  | configured =>
    obtain ⟨-, hflag⟩ := h.inv.quiet (.inr (.inr hq))
    obtain ⟨-, hen, hkept, -⟩ := afterStart_ctrl_fields s
    have hp := perform_seq_start s h.live h.read hq h.enabled
    have hfive := (turnsLeft_eq_five_iff (afterStart s)).mpr ⟨rfl, by simp [hkept, hflag]⟩
    exact ⟨_, hp, h.after hp h.live rfl hen nofun, .inl (by rw [hfive]; simp [turnsLeft, hq])⟩
  | started =>
    rcases BitVec.eq_zero_or_eq_one s.flag with hf | hf
    · exact ⟨s, perform_seq_poll_clear s h.live h.read hq hf, h,
        .inr (.inl ⟨(turnsLeft_eq_five_iff s).mpr ⟨hq, by simp [hf]⟩, rfl⟩)⟩
    · have hp := perform_seq_poll_set s h.live h.read hq hf
      exact ⟨_, hp, h.after hp h.live rfl rfl nofun, .inl (by simp [turnsLeft, hq, hf])⟩
  | complete =>
    obtain ⟨-, hen, -⟩ := afterClear_ctrl_fields s
    have hp := perform_seq_clear s h.live h.read hq
    exact ⟨_, hp, h.after hp h.live rfl hen nofun, .inl (by simp [turnsLeft, hq, afterClear])⟩
  | cleared =>
    have hp := perform_seq_dataRead s h.live h.read hq h.inv.align_eq_zero
    exact ⟨_, hp, h.after hp h.live rfl rfl nofun, .inl (by simp [turnsLeft, hq, afterDataRead])⟩
  | resultRead =>
    obtain ⟨v, hp⟩ := exists_perform_seq_deliver s h.live h.read hq
    exact ⟨_, hp, h.after hp h.live rfl rfl fun _ => rfl, .inl (by simp [turnsLeft, hq])⟩

/-- CONV's turn completes an outstanding conversion and changes nothing otherwise (41_read_channel R150). -/
theorem Reading.conv_turn {s : State} (h : Reading s) (v : Sample) (u : BitVec 6) :
    ∃ t, perform (.conv v u) s = .next t ∧ Reading t ∧
      (turnsLeft t = 4 ∧ 4 ≤ turnsLeft s ∨ turnsLeft s ≠ 5 ∧ t = s) := by
  cases ha : s.convActive with
  | false =>
    refine ⟨s, perform_conv_inactive s v u h.live ha, h, .inr ⟨fun hfive => ?_, rfl⟩⟩
    obtain ⟨hq, hf⟩ := (turnsLeft_eq_five_iff s).mp hfive
    simp [h.inv.convActive_of_started hq hf] at ha
  | true =>
    have hq := h.inv.started_of_convActive ha
    have hp := perform_conv_active s v u h.live ha h.inv.align_eq_zero
    obtain ⟨-, hflag, hen, -⟩ := afterConv_ctrl_fields v u s
    have hstarted : (afterConv v u s).seqState = .started := hq
    refine ⟨_, hp, h.after hp h.live rfl hen (by simp [hstarted]), .inl ⟨?_, ?_⟩⟩
    · simp [turnsLeft, hstarted, hflag]
    · simp only [turnsLeft, hq]; split <;> decide

/-- A turn of a waiting agent never adds to the turns a command still needs, and the awaited agent's turn takes one off. -/
theorem Reading.turn {s : State} {e : Event} (h : Reading s) (hw : Waits e) :
    ∃ t, perform e s = .next t ∧ Reading t ∧ turnsLeft t ≤ turnsLeft s ∧
      (Awaited (turnsLeft s) e → turnsLeft t ≤ turnsLeft s - 1) := by
  rcases hw with rfl | rfl | ⟨v, u, rfl⟩
  · obtain ⟨t, hp, ht, hcases⟩ := h.seq_turn
    refine ⟨t, hp, ht, ?_⟩
    rcases hcases with hless | ⟨hfive, rfl⟩ | ⟨hzero, rfl⟩
    · exact ⟨by omega, fun _ => by omega⟩
    · exact ⟨le_rfl, by simp [Awaited, hfive]⟩
    · exact ⟨le_rfl, fun _ => by omega⟩
  · have hp : perform .hostReadStatus s = .next (s.replyHost (.status s.status)) := by
      rw [perform_live _ _ h.live]; rfl
    refine ⟨_, hp, h.after hp h.live rfl rfl h.delivered, le_rfl, fun hawaited => ?_⟩
    unfold Awaited at hawaited
    split at hawaited <;> simp at hawaited
  · obtain ⟨t, hp, ht, hcases⟩ := h.conv_turn v u
    refine ⟨t, hp, ht, ?_⟩
    rcases hcases with ⟨hfour, hle⟩ | ⟨hne, rfl⟩
    · refine ⟨by omega, fun hawaited => ?_⟩
      have hfive : turnsLeft s = 5 := by
        by_contra hne
        simp [Awaited, hne] at hawaited
      omega
    · exact ⟨le_rfl, by simp [Awaited, hne]⟩

/-! Streams of turns. -/

theorem runStream_succ {σ : Nat → Event} {k : Nat} {s t : State} (h : runStream σ k s = .next t) :
    runStream σ (k + 1) s = perform (σ k) t := by
  rw [runStream, h]

/-- Under both fairness premises the awaited agent's turn comes, whichever agent it is. -/
theorem exists_awaited {σ : Nat → Event} (hconv : ConverterResponds σ) (hseq : SequencerRuns σ) (turns n : Nat) :
    ∃ d, Awaited turns (σ (n + d)) := by
  unfold Awaited
  split
  · obtain ⟨m, hm, hturn⟩ := hconv n
    exact ⟨m - n, by rwa [Nat.add_sub_cancel' hm]⟩
  · obtain ⟨m, hm, hturn⟩ := hseq n
    exact ⟨m - n, by rwa [Nat.add_sub_cancel' hm]⟩

section
variable {σ : Nat → Event} {s t : State} {k : Nat} (hwait : HostWaits σ) (hrun : runStream σ k s = .next t)
  (ht : Reading t)
include hwait hrun ht

/-- Any number of turns later the command is still under way and needs no more turns than before. -/
theorem Reading.stream (d : Nat) :
    ∃ t', runStream σ (k + d) s = .next t' ∧ Reading t' ∧ turnsLeft t' ≤ turnsLeft t := by
  induction d with
  | zero => exact ⟨t, hrun, ht, le_rfl⟩
  | succ d ih =>
    obtain ⟨t₁, hrun₁, ht₁, hle₁⟩ := ih
    obtain ⟨t₂, hp, ht₂, hle₂, -⟩ := ht₁.turn (hwait (k + d))
    exact ⟨t₂, (runStream_succ hrun₁).trans hp, ht₂, hle₂.trans hle₁⟩

/-- At some later turn the command needs one turn less. -/
theorem Reading.progress (hconv : ConverterResponds σ) (hseq : SequencerRuns σ) :
    ∃ k' t', runStream σ k' s = .next t' ∧ Reading t' ∧ turnsLeft t' ≤ turnsLeft t - 1 := by
  obtain ⟨d, hawaited⟩ := exists_awaited hconv hseq (turnsLeft t) k
  obtain ⟨t₁, hrun₁, ht₁, hle₁⟩ := ht.stream hwait hrun d
  obtain ⟨t₂, hp, ht₂, hle₂, hless⟩ := ht₁.turn (hwait (k + d))
  refine ⟨k + d + 1, t₂, (runStream_succ hrun₁).trans hp, ht₂, ?_⟩
  by_cases heq : turnsLeft t₁ = turnsLeft t
  · rw [← heq] at hawaited ⊢
    exact hless hawaited
  · omega

end

/-- Under the three premises a command under way is delivered. -/
theorem Reading.ends {σ : Nat → Event} (hwait : HostWaits σ) (hconv : ConverterResponds σ) (hseq : SequencerRuns σ)
    (turns : Nat) {s t : State} {k : Nat} (hrun : runStream σ k s = .next t) (ht : Reading t)
    (hturns : turnsLeft t ≤ turns) :
    ∃ k' t', runStream σ k' s = .next t' ∧ Reading t' ∧ t'.seqState = .idle := by
  induction turns generalizing k t with
  | zero => exact ⟨k, t, hrun, ht, (turnsLeft_eq_zero_iff t).mp (Nat.le_zero.mp hturns)⟩
  | succ n ih =>
    obtain ⟨k', t', hrun', ht', hless⟩ := ht.progress hwait hrun hconv hseq
    exact ih hrun' ht' (by omega)

end Sys2Proof.Safety

namespace Sys2Proof.Proofs

open Sys2Proof.Machine Sys2Proof.Safety

/-- Settles O48: the turns a command needs are finitely many, and each of them comes. -/
theorem readsEndIfConverterResponds : Obligations.ReadsEndIfConverterResponds := by
  intro σ s hconv hseq hwait hinv hlive hbusy hread hen
  have hreading : Reading s := ⟨hinv, hlive, hread, hen, fun hidle => absurd hidle hbusy⟩
  obtain ⟨k, t, hrun, ht, hidle⟩ := hreading.ends hwait hconv hseq (turnsLeft s) (k := 0) rfl le_rfl
  exact ⟨k, t, hrun, hidle, ht.delivered hidle, ht.live⟩

end Sys2Proof.Proofs
end

section
/-! PROOFS. The temperature scaling (42_read_temperature R183 to R186): `TEMP_SCALE` between multiples of 1000, and RESULT's
low byte as a signed number. -/

namespace Sys2Proof.Machine

/-! The value. -/

theorem tempScale_of_le {v : Sample} (h : 250000 ≤ 782 * v.toNat) :
    tempScale v = ((782 * v.toNat - 250000) / 1000 : Nat) := by
  simp only [tempScale, tempGain, tempOffset]
  omega

theorem tempScale_of_lt {v : Sample} (h : 782 * v.toNat < 250000) :
    tempScale v = -((250000 - 782 * v.toNat) / 1000 : Nat) := by
  simp only [tempScale, tempGain, tempOffset]
  omega

/-- `TEMP_SCALE` is the quotient of the thousandths rounded toward zero: down from 250000 on, up below (42_read_temperature
R183). -/
theorem tempScale_bounds (v : Sample) :
    (250000 ≤ 782 * v.toNat → 1000 * tempScale v ≤ 782 * (v.toNat : Int) - 250000 ∧
      782 * (v.toNat : Int) - 250000 < 1000 * tempScale v + 1000) ∧
    (782 * v.toNat < 250000 → 1000 * tempScale v - 1000 < 782 * (v.toNat : Int) - 250000 ∧
      782 * (v.toNat : Int) - 250000 ≤ 1000 * tempScale v) := by
  refine ⟨fun h => ?_, fun h => ?_⟩
  · rw [tempScale_of_le h]
    omega
  · rw [tempScale_of_lt h]
    omega

theorem tempScale_le_tempScale {v w : Sample} (h : v ≤ w) : tempScale v ≤ tempScale w := by
  obtain ⟨hv, hv'⟩ := tempScale_bounds v
  obtain ⟨hw, hw'⟩ := tempScale_bounds w
  rw [BitVec.le_def] at h
  omega

/-- The gain is below 1, so the next code is at most one degree more (42_read_temperature R186). -/
theorem tempScale_succ {v w : Sample} (h : w.toNat = v.toNat + 1) :
    tempScale w = tempScale v ∨ tempScale w = tempScale v + 1 := by
  obtain ⟨hv, hv'⟩ := tempScale_bounds v
  obtain ⟨hw, hw'⟩ := tempScale_bounds w
  omega

theorem tempScale_eq_zero_iff (v : Sample) : tempScale v = 0 ↔ v.toNat = 319 ∨ v.toNat = 320 := by
  obtain ⟨hv, hv'⟩ := tempScale_bounds v
  omega

/-- The temperatures of a signed byte are those of the codes 155 to 483 (42_read_temperature R186). -/
theorem tempScale_fits_byte_iff (v : Sample) : 155 ≤ v.toNat ∧ v.toNat ≤ 483 ↔ -128 ≤ tempScale v ∧ tempScale v ≤ 127 := by
  obtain ⟨hv, hv'⟩ := tempScale_bounds v
  omega

/-- The quotient is exact where 1000 divides `782 v`, which is where 500 divides v (42_read_temperature R186). -/
theorem tempScale_exact_iff (v : Sample) : 1000 * tempScale v = 782 * (v.toNat : Int) - 250000 ↔ 500 ∣ v.toNat := by
  obtain ⟨hv, hv'⟩ := tempScale_bounds v
  omega

/-- The floor differs from the truncated value below zero and off the exact values only (42_read_temperature R184). -/
theorem fdiv_thousandths (v : Sample) :
    Int.fdiv (782 * (v.toNat : Int) - 250000) 1000 =
      (if 1 ≤ v.toNat ∧ v.toNat ≤ 319 then tempScale v - 1 else tempScale v) := by
  obtain ⟨hv, hv'⟩ := tempScale_bounds v
  rw [Int.fdiv_eq_ediv_of_nonneg _ (by decide)]
  split <;> omega

/-! The encoding. -/

/-- The low byte as a signed number is the word's value wrapped modulo 256 (42_read_temperature R185). -/
theorem signedByte_eq (r : Word16) : signedByte r = (r.toInt + 128) % 256 - 128 := by
  have hbyte : signedByte r = Int.bmod r.toInt 256 := by
    rw [signedByte, ← BitVec.setWidth_eq_extractLsb' (by decide), BitVec.toInt_setWidth, BitVec.toInt_eq_toNat_bmod,
      Int.bmod_bmod_of_dvd (by decide)]
  rw [hbyte, Int.bmod_def]
  split <;> omega

/-- A word is the sign extension of its low byte exactly where its value fits a byte (42_read_temperature R185). -/
theorem eq_signExtend_lowByte_iff (r : Word16) :
    r = (r.extractLsb' 0 8).signExtend 16 ↔ -128 ≤ r.toInt ∧ r.toInt ≤ 127 := by
  rw [← BitVec.toInt_inj, BitVec.toInt_signExtend_of_le (by decide)]
  change r.toInt = signedByte r ↔ _
  rw [signedByte_eq]
  omega

end Sys2Proof.Machine

namespace Sys2Proof.Proofs

open Sys2Proof.Machine

/-- Settles O26: each law from the bounds of the quotient, the byte's from its encoding. -/
theorem temperatureRangeLaws : Obligations.TemperatureRangeLaws := by
  refine ⟨fun v w => tempScale_le_tempScale, rfl, rfl, tempScale_eq_zero_iff, fun v w => tempScale_succ, fun v => ?_⟩
  obtain ⟨hv, hv'⟩ := tempScale_bounds v
  refine ⟨?_, tempScale_fits_byte_iff v, ?_, ?_, tempScale_exact_iff v⟩
  · rw [signedByte_eq, tempResult_toInt, tempScale_fits_byte_iff]
    omega
  · omega
  · omega

/-- Settles O25: the truncated quotient, its range, and the floor beside it. -/
theorem temperatureRoundsTowardZero : Obligations.TemperatureRoundsTowardZero := by
  intro v
  obtain ⟨hlo, hhi⟩ := tempScale_range v
  exact ⟨tempScale_eq_tdiv v, hlo, hhi, fdiv_thousandths v⟩

/-- Settles O27: the laws of a word's low byte, at a word whose value is the temperature. -/
theorem temperatureResultEncoding : Obligations.TemperatureResultEncoding := by
  intro v
  rw [signedByte_eq, eq_signExtend_lowByte_iff, tempResult_toInt]
  exact ⟨rfl, rfl, Iff.rfl⟩

end Sys2Proof.Proofs
end

section
/-! PROOFS. The scaling in binary floating point (42_read_temperature R187). With 24 or more significant bits the rounding
errors stay below one thousandth, and off the multiples of 500 the exact value is that far from every integer. -/

namespace Sys2Proof.Machine

/-! Rounding errors. -/

/-- `a` and `b` differ by at most `e`. -/
def Near (e a b : Nat) : Prop := a ≤ b + e ∧ b ≤ a + e

/-- Rounding moves a value of `p + k` bits by at most half of `2 ^ k`. -/
theorem roundSig_near {p k n : Nat} (hp : 0 < p) (hn : n < 2 ^ (p + k)) : Near (2 ^ k) (2 * roundSig p n) (2 * n) := by
  have hlog : n.log2 + 1 - p ≤ k := by
    rcases Nat.eq_zero_or_pos n with rfl | hpos
    · rw [Nat.log2_zero]
      omega
    · have hbits := (Nat.log2_lt hpos.ne').mpr hn
      omega
  have hunit : 2 ^ (n.log2 + 1 - p) ≤ 2 ^ k := Nat.pow_le_pow_right (by decide) hlog
  have hdiv := Nat.div_add_mod' n (2 ^ (n.log2 + 1 - p))
  have hmod := Nat.mod_lt n (Nat.two_pow_pos (n.log2 + 1 - p))
  simp only [Near, roundSig, Bool.or_eq_true, Bool.and_eq_true, decide_eq_true_eq, beq_iff_eq]
  split
  · rw [Nat.add_one_mul (n / _)]
    omega
  · omega

/-- Setting the sticky bit adds at most 1. -/
theorem or_one_near (n : Nat) : Near 1 (n ||| 1) n := by
  have hle : n ≤ n ||| 1 := Nat.left_le_or
  have hhalf : (n ||| 1) / 2 = n / 2 := Nat.or_div_two.trans (Nat.or_zero _)
  constructor <;> omega

/-- A quotient is not changed by an error below one thousandth, where `n` thousandths are no integer. -/
theorem div_eq_of_near {a n scale : Nat} (hn : ¬ 1000 ∣ n) (h : Near (scale - 1) (1000 * a) (n * scale))
    (hscale : 0 < scale) : a / scale = n / 1000 := by
  obtain ⟨habove, hbelow⟩ := h
  have hfloor : (1000 * (n / 1000) + 1) * scale ≤ n * scale := Nat.mul_le_mul_right _ (by omega)
  have hceil : (n + 1) * scale ≤ 1000 * (n / 1000 + 1) * scale := Nat.mul_le_mul_right _ (by omega)
  rw [Nat.add_one_mul, Nat.mul_assoc] at hfloor hceil
  exact Nat.div_eq_of_lt_le (by omega) (by omega)

/-! The evaluation. -/

/-- The constant 0.782 rounded: the first of R187's roundings. -/
def floatGain (p : Nat) : Nat := roundSig p ((782 * 2 ^ (p + 12) / 1000) ||| 1)

/-- The product 0.782 × v rounded: the second. -/
def floatProduct (p : Nat) (v : Sample) : Nat := roundSig p (floatGain p * v.toNat)

theorem floatTemp_of_le {p : Nat} {v : Sample} (h : 250 * 2 ^ (p + 12) ≤ floatProduct p v) :
    floatTemp p v = (roundSig p (floatProduct p v - 250 * 2 ^ (p + 12)) / 2 ^ (p + 12) : Nat) :=
  if_pos h

theorem floatTemp_of_lt {p : Nat} {v : Sample} (h : floatProduct p v < 250 * 2 ^ (p + 12)) :
    floatTemp p v = -((roundSig p (250 * 2 ^ (p + 12) - floatProduct p v) / 2 ^ (p + 12) : Nat) : Int) :=
  if_neg (Nat.not_le.mpr h)

section
variable {p : Nat} (hp : 24 ≤ p)
include hp

/-- The scale of the integers that stand for values: a thousandth of it is more than all the errors below. -/
theorem floatScale_ge : 2 ^ 36 ≤ 2 ^ (p + 12) := Nat.pow_le_pow_right (by decide) (by omega)

/-- The constant in thousandths: half of `2 ^ 12` from its rounding, and one each from its truncation and its sticky bit. -/
theorem floatGain_near : Near 2050000 (1000 * floatGain p) (782 * 2 ^ (p + 12)) := by
  have hscale := floatScale_ge hp
  obtain ⟨hsticky, hsticky'⟩ := or_one_near (782 * 2 ^ (p + 12) / 1000)
  obtain ⟨habove, hbelow⟩ := roundSig_near (p := p) (k := 12) (by omega)
    (show (782 * 2 ^ (p + 12) / 1000) ||| 1 < 2 ^ (p + 12) by omega)
  rw [← floatGain] at habove hbelow
  constructor <;> omega

/-- The product in thousandths: the constant's error times the sample, and half of `2 ^ 22` from its own rounding. -/
theorem floatProduct_near (v : Sample) :
    Near (2050000 * 1023 + 1000 * 2 ^ 21) (1000 * floatProduct p v) (782 * v.toNat * 2 ^ (p + 12)) := by
  have hscale := floatScale_ge hp
  have hpow : 2 ^ (p + 22) = 1024 * 2 ^ (p + 12) := by ring
  have hv : v.toNat ≤ 1023 := Nat.le_of_lt_succ v.isLt
  obtain ⟨hgain, hgain'⟩ := floatGain_near hp
  have hmul := Nat.mul_le_mul_left v.toNat hgain
  have hmul' := Nat.mul_le_mul_left v.toNat hgain'
  have hbits : v.toNat * floatGain p ≤ 1023 * floatGain p := Nat.mul_le_mul_right _ hv
  obtain ⟨habove, hbelow⟩ := roundSig_near (p := p) (k := 22) (by omega)
    (show floatGain p * v.toNat < 2 ^ (p + 22) by linarith)
  rw [← floatProduct] at habove hbelow
  constructor <;> linarith

/-- Rounding a difference near `n` thousandths leaves its quotient, where `n` thousandths are no integer. -/
theorem roundSig_div_eq {d n : Nat} (hn : ¬ 1000 ∣ n) (hle : n ≤ 1000000)
    (hd : Near (2050000 * 1023 + 1000 * 2 ^ 21) (1000 * d) (n * 2 ^ (p + 12))) :
    roundSig p d / 2 ^ (p + 12) = n / 1000 := by
  have hscale := floatScale_ge hp
  have hpow : 2 ^ (p + 22) = 1024 * 2 ^ (p + 12) := by ring
  have hbits : n * 2 ^ (p + 12) ≤ 1000000 * 2 ^ (p + 12) := Nat.mul_le_mul_right _ hle
  obtain ⟨hlo, hhi⟩ := hd
  obtain ⟨habove, hbelow⟩ := roundSig_near (p := p) (k := 22) (by omega) (show d < 2 ^ (p + 22) by omega)
  exact div_eq_of_near hn ⟨by omega, by omega⟩ (by omega)

/-- Off the multiples of 500 the roundings to `p` significant bits do not reach an integer. -/
theorem floatTemp_of_not_dvd {v : Sample} (hv : ¬ 500 ∣ v.toNat) : floatTemp p v = tempScale v := by
  have hscale := floatScale_ge hp
  have hlt : v.toNat < 1024 := v.isLt
  obtain ⟨hprod, hprod'⟩ := floatProduct_near hp v
  rcases Nat.lt_or_ge (782 * v.toNat) 250000 with hneg | hpos
  · obtain ⟨n, hn⟩ : ∃ n, n = 250000 - 782 * v.toNat := ⟨_, rfl⟩
    have hsplit : 782 * v.toNat * 2 ^ (p + 12) + n * 2 ^ (p + 12) = 250000 * 2 ^ (p + 12) := by
      rw [← Nat.add_mul, hn, Nat.add_sub_cancel' hneg.le]
    have hone : 2 ^ (p + 12) ≤ n * 2 ^ (p + 12) := Nat.le_mul_of_pos_left _ (by omega)
    rw [floatTemp_of_lt (by omega), tempScale_of_lt hneg, ← hn,
      roundSig_div_eq hp (n := n) (by omega) (by omega) ⟨by omega, by omega⟩]
  · obtain ⟨n, hn⟩ : ∃ n, n = 782 * v.toNat - 250000 := ⟨_, rfl⟩
    have hsplit : 250000 * 2 ^ (p + 12) + n * 2 ^ (p + 12) = 782 * v.toNat * 2 ^ (p + 12) := by
      rw [← Nat.add_mul, hn, Nat.add_sub_cancel' hpos]
    have hone : 2 ^ (p + 12) ≤ n * 2 ^ (p + 12) := Nat.le_mul_of_pos_left _ (by omega)
    rw [floatTemp_of_le (by omega), tempScale_of_le hpos, ← hn,
      roundSig_div_eq hp (n := n) (by omega) (by omega) ⟨by omega, by omega⟩]

end

/-- At the multiples of 500, where the exact value is an integer, both widths evaluate to it. -/
theorem floatTemp_of_dvd {v : Sample} (hv : 500 ∣ v.toNat) : floatTemp 24 v = tempScale v ∧ floatTemp 53 v = tempScale v := by
  have hlt : v.toNat < 1024 := v.isLt
  have hcases : v = 0#10 ∨ v = 500#10 ∨ v = 1000#10 := by
    simp only [← BitVec.toNat_inj, BitVec.toNat_ofNat]
    omega
  obtain rfl | rfl | rfl := hcases
  · decide
  · decide
  · decide

end Sys2Proof.Machine

namespace Sys2Proof.Proofs

open Sys2Proof.Machine

/-- Settles O28: by the error bound off the multiples of 500, and by evaluation at the three of them. -/
theorem floatingPointAgrees : Obligations.FloatingPointAgrees := by
  intro v
  by_cases hv : 500 ∣ v.toNat
  · exact floatTemp_of_dvd hv
  · exact ⟨floatTemp_of_not_dvd (by decide) hv, floatTemp_of_not_dvd (by decide) hv⟩

end Sys2Proof.Proofs
end

section
/-! PROOFS. READTEMP's own steps and a whole READTEMP (42_read_temperature R180, R181, R188, R189). -/

namespace Sys2Proof.Machine

open Sys2Proof.Safety

/-- The scaled word as a signed number is the truncated quotient of the thousandths (42_read_temperature R183, R185). -/
theorem tempResult_toInt_eq_tdiv (v : Sample) :
    (tempResult v).toInt = Int.tdiv (782 * (v.toNat : Int) - 250000) 1000 := by
  rw [tempResult_toInt, tempScale_eq_tdiv]

/-- RAW's ten sample bits in numbers (42_read_temperature R188). -/
theorem raw_sample_toNat (r : Word16) : (r.extractLsb' 0 10).toNat = r.toNat % 1024 := by
  rw [BitVec.extractLsb'_toNat, Nat.shiftRight_zero]

/-- A sample zero-extended to RAW is RAW's ten sample bits. -/
theorem setWidth_extract_sample (v : Sample) : (v.setWidth 16).extractLsb' 0 10 = v := by
  rw [← BitVec.setWidth_eq_extractLsb' (by decide), BitVec.setWidth_setWidth_of_le _ (by decide), BitVec.setWidth_eq]

/-- The state READTEMP's acceptance and configure step leave: the command in CUR, band gap and sensor in MODE. -/
def configuredReadtemp (s : State) : State := afterConfigure 0b11#2 0b1000#4 (s.latch (latchOf .readtemp))

/-- The state READTEMP leaves at IDLE, with the scaled sample in RESULT (42_read_temperature R189). -/
def afterReadtemp (v : Sample) (u : BitVec 6) (s : State) : State :=
  ((afterCycle v u (configuredReadtemp s)).publish (tempResult v)).setSeq .idle

/-- The final step after a cycle publishes the cycle's sample, scaled (42_read_temperature R188). -/
theorem perform_seq_afterReadtemp (v : Sample) (u : BitVec 6) (s : State) (h : Live s) :
    perform .seq (afterCycle v u (configuredReadtemp s)) = .next (afterReadtemp v u s) := by
  obtain ⟨-, hdeliver⟩ := perform_seq_deliver (afterCycle v u (configuredReadtemp s)) h rfl
  rw [hdeliver rfl, show (afterCycle v u (configuredReadtemp s)).raw = v.setWidth 16 from rfl, setWidth_extract_sample,
    afterReadtemp]

/-- A run over the events of one READTEMP, from IDLE on an enabled block. -/
theorem run_readtemp (s : State) (polls : Nat) (v : Sample) (u : BitVec 6) (rest : List Event) (h : Live s)
    (hq : s.seqState = .idle) (he : s.en = 1#1) (hl : s.align = 0#1) (hf : s.flag = 0#1) (hs : s.start = 0#1) :
    core.run (polls + 8) (s.withAgenda (readSchedule 0x30#8 polls v u ++ rest)) =
      .next ((afterReadtemp v u s).withAgenda rest) := by
  obtain ⟨-, -, halign, -⟩ := afterConfigure_mode_fields 0b11#2 0b1000#4 (s.latch (latchOf .readtemp))
  rw [readSchedule_eq, List.cons_append, List.cons_append, List.append_assoc,
    show polls + 8 = 1 + 4 + polls + 1 + 1 + 1 by omega]
  calc
    _ = core.run (1 + 4 + polls + 1 + 1) ((s.latch (latchOf .readtemp)).withAgenda _) :=
      run_withAgenda_cons _ fun es => perform_hostWrite_latch (s.withAgenda es) _ _ h hq (decode_encode .readtemp rfl)
    _ = core.run (1 + 4 + polls + 1) ((configuredReadtemp s).withAgenda _) :=
      run_withAgenda_cons _ fun es =>
        (perform_seq_configure ((s.withAgenda es).latch (latchOf .readtemp)) h rfl).2 rfl
    _ = core.run 1 ((afterCycle v u (configuredReadtemp s)).withAgenda _) :=
      run_cycle 1 polls v u _ _ h nofun rfl he (halign.trans hl) hs hf
    _ = core.run 0 ((afterReadtemp v u s).withAgenda rest) :=
      run_withAgenda_cons 0 fun es => perform_seq_afterReadtemp v u (s.withAgenda es) h

end Sys2Proof.Machine

namespace Sys2Proof.Proofs

open Sys2Proof.Machine Sys2Proof.Safety

/-- Settles O13: the configure step selects the band gap and the sensor. -/
theorem readtempConfiguresBandGapAndSensor : Obligations.ReadtempConfiguresBandGapAndSensor := by
  intro s hlive hq
  obtain ⟨href, hch, halign, hunnamed⟩ := afterConfigure_mode_fields 0b11#2 0b1000#4 s
  refine ⟨afterConfigure 0b11#2 0b1000#4 s, ?_, href, hch, halign, hunnamed, rfl, rfl⟩
  rw [exec_readtemp_pending s hlive hq, configureReadtemp_eq, afterConfigure]

/-- Settles O19: READTEMP publishes the scaled sample bits of RAW, which the invariant bounds at RESULT_READ. -/
theorem readtempDeliversScaledRaw : Obligations.ReadtempDeliversScaledRaw := by
  intro s hlive hq
  refine ⟨_, exec_readtemp_resultRead s hlive hq, ?_, rfl, rfl, rfl, fun hinv => hinv.raw_toNat_le hq⟩
  rw [← raw_sample_toNat]
  exact tempResult_toInt_eq_tdiv _

/-- Settles O46: the run ends in `afterReadtemp`, whose MODE is the configure step's and whose CTRL is the first state's. -/
theorem readtempRunDeliversTheTemperature : Obligations.ReadtempRunDeliversTheTemperature := by
  intro s polls v u rest hlive hq he hl hf hs hagenda
  have hrun := run_readtemp s polls v u rest hlive hq he hl hf hs
  rw [← hagenda] at hrun
  obtain ⟨href, hch, halign, -⟩ := afterConfigure_mode_fields 0b11#2 0b1000#4 (s.latch (latchOf .readtemp))
  exact ⟨_, hrun, tempResult_toInt_eq_tdiv v, rfl, rfl, hch, href, halign.trans hl, hf, hs, he, rfl, hlive, rfl⟩

end Sys2Proof.Proofs
end

section
/-! PROOFS. How a step ends without an effect (60_exceptions R210 to R220): a recorded fault or refusal ends the run, a step
that records one writes nothing else, and a poll that never sees the flag changes nothing. -/

namespace Sys2Proof.Machine

open Sys2Proof.Safety

/-! The guard where a refusal is recorded. -/

/-- Where a refusal and no fault is recorded the guarded answer is the first refusal (60_exceptions R219). -/
theorem guarded_refused (s : State) (k : Answer) (r : Refusal) (rs : List Refusal) (hf : s.fault = none)
    (hr : s.refused = r :: rs) : guarded s k = .refused r := by
  simp [guarded, hf, hr]

/-! The writers of FAULT and REFUSED. -/

/-- FAULT is written by `raise` only, and a move that raises does nothing else (60_exceptions R210). -/
theorem Moves.fault_eq_or {e : Event} {s t : State} (hm : Moves e s t) :
    t.fault = s.fault ∨ ∃ f, t = s.recordFault f := by
  cases hm with
  | fault _ _ f => exact .inr ⟨f, rfl⟩
  | _ => exact .inl rfl

/-- REFUSED is written by `refuse` only, and a move that refuses does nothing else (60_exceptions R219). -/
theorem Moves.refused_eq_or {e : Event} {s t : State} (hm : Moves e s t) :
    t.refused = s.refused ∨ ∃ r, t = s.recordRefusal r := by
  cases hm with
  | refusal _ _ r => exact .inr ⟨r, rfl⟩
  | _ => exact .inl rfl

/-- Taking the first fault back gives the state before it was recorded. -/
theorem State.recordFault_erase (s : State) (f : Fault) (h : s.fault = none) :
    { s.recordFault f with fault := none } = s := by
  rw [← h]; rfl

/-- Taking the first refusal back gives the state before it was recorded. -/
theorem State.recordRefusal_erase (s : State) (r : Refusal) (h : s.refused = []) :
    { s.recordRefusal r with refused := [] } = s := by
  rw [← h]; rfl

/-! FOREIGN's access. -/

/-- A FOREIGN access while BUSY records its fault (60_exceptions R217). -/
theorem perform_foreign_busy (s : State) (r : AdcReg) (k : AccessKind) (h : Live s) (hs : s.seqState ≠ .idle) :
    perform (.foreign r k) s = .next { s with fault := some (.foreignAccess r k) } := by
  rw [perform_live _ _ h]
  simp only [foreignAccess, if_pos (s.busy_iff.mpr hs), raiseFault_eq, s.recordFault_of_none _ h.1]

/-- A FOREIGN access at IDLE is refused (60_exceptions R219). -/
theorem perform_foreign_idle (s : State) (r : AdcReg) (k : AccessKind) (h : Live s) (hs : s.seqState = .idle) :
    perform (.foreign r k) s = .next { s with refused := [.foreignIdle] } := by
  rw [perform_live _ _ h]
  simp [foreignAccess, State.busy, hs, s.recordRefusal_of_nil _ h.2]

end Sys2Proof.Machine

namespace Sys2Proof.Proofs

open Sys2Proof.Machine Sys2Proof.Safety

/-- Settles O31: every step is guarded by FAULT, and of the moves only `raise` writes it. -/
theorem faultsAreFinalAndWriteNothingElse : Obligations.FaultsAreFinalAndWriteNothingElse := by
  refine ⟨fun s f hf => ⟨?_, fun e => guarded_fault s _ f hf⟩, fun s t e f h ht => ?_⟩
  · exact guarded_fault s.takeEvent _ f (s.takeEvent_fault.trans hf)
  · obtain ⟨hnone, -, hm⟩ := perform_moves e s t h
    rcases hm.fault_eq_or with hkept | ⟨g, rfl⟩
    · simp [hkept, hnone] at ht
    · exact s.recordFault_erase g hnone

/-- Settles O32: every step is guarded by REFUSED, and of the moves only `refuse` writes it. -/
theorem refusalsAreFinalAndWriteNothingElse : Obligations.RefusalsAreFinalAndWriteNothingElse := by
  refine ⟨fun s r rs hf hr => ⟨?_, fun i => ?_⟩, fun s t e h ht => ?_⟩
  · exact guarded_refused s.takeEvent _ r rs (s.takeEvent_fault.trans hf) (s.takeEvent_refused.trans hr)
  · cases i <;> exact guarded_refused s _ r rs hf hr
  · obtain ⟨-, hnil, hm⟩ := perform_moves e s t h
    rcases hm.refused_eq_or with hkept | ⟨r, rfl⟩
    · exact absurd (hkept.trans hnil) ht
    · exact s.recordRefusal_erase r hnil

/-- Settles O47, by induction on the number of polls: each of them sees FLAG = 0 in the state it was given. -/
theorem silentConverterHangs : Obligations.SilentConverterHangs := by
  intro s k hlive hq ho hflag
  induction k with
  | zero => rfl
  | succ k ih => rw [runStream_succ ih, perform_seq_poll_clear s hlive ho hq hflag]

/-- Settles O30: FOREIGN's access by BUSY; HOST's two accesses are refused in every state. -/
theorem foreignAndHostRegisterAccesses : Obligations.ForeignAndHostRegisterAccesses := by
  intro s r k hlive
  refine ⟨perform_foreign_busy s r k hlive, perform_foreign_idle s r k hlive, ?_, ?_⟩
  · rw [perform_live _ _ hlive, ← s.recordRefusal_of_nil .cmdRead hlive.2]; rfl
  · rw [perform_live _ _ hlive, ← s.recordRefusal_of_nil .hostRegister hlive.2]; rfl

end Sys2Proof.Proofs
end
